-- ==== Sys2Proof/Word.lean ====
section
/-! DEFINITION. The machine's word types (spec/00_scope.md R5: a memory cell is 8 bits, an address is 16 bits). -/

namespace Sys2Proof

/-- An 8-bit datum: a register, a memory cell, an operand byte (00_scope R5). -/
abbrev Byte := BitVec 8

/-- A 16-bit datum: a register pair, SP, PC, an address (00_scope R5). -/
abbrev Word := BitVec 16

end Sys2Proof
end

