-- ==== Sys2Proof/Machine/Bits.lean ====
section
/-! DEFINITION. Byte order, bit fields and sign extension (spec/00_scope.md R16, spec/20_memory.md R100). -/

namespace Sys2Proof.Machine

/-- `w[15:8]`. -/
def hiByte (w : Word) : Byte := w.extractLsb' 8 8

/-- `w[7:0]`. -/
def loByte (w : Word) : Byte := w.extractLsb' 0 8

/-- `hi ++ lo`: every 16-bit value is assembled from two bytes this way (00_scope R16, 20_memory R100). -/
def joinBytes (hi lo : Byte) : Word := hi ++ lo

/-- `zext_16` (00_scope R16). -/
def zext16 (b : Byte) : Word := b.setWidth 16

/-- `sext_16` (00_scope R16). -/
def sext16 (b : Byte) : Word := b.signExtend 16

/-- `v[i]`. -/
def bitAt {w : Nat} (v : BitVec w) (i : Nat) : Bool := v.getLsbD i

/-- The field of `n` bits whose lowest bit is bit `lo`, as an unsigned integer. -/
def field {w : Nat} (v : BitVec w) (lo n : Nat) : Nat := (v.extractLsb' lo n).toNat

/-- A Boolean as the integer 0 or 1. -/
def bit01 (b : Bool) : Nat := if b then 1 else 0

/-- A byte with one bit set where the flag holds, and 0 otherwise. -/
def maskIf (b : Bool) (mask : Byte) : Byte := if b then mask else 0

/-- Element `n` of a list, or `d` beyond its end. -/
def nth {α : Type} (d : α) : List α → Nat → α
  | [], _ => d
  | x :: _, 0 => x
  | _ :: xs, n + 1 => nth d xs n

end Sys2Proof.Machine
end

