-- ==== Sys2Proof/Syntax.lean ====
section
/-! DEFINITION. The instructions: one constructor per row of spec/opcode_table.json: the rows with
operands first, then the others, each in the table's order (a constructor with fields needs a small tag when compiled).
An operand is what the encoding carries: a byte or a 16-bit value as bits, a relative displacement `r8` as the
signed integer it denotes (spec/30_encoding.md R134; its range is checked in WellFormed.lean), STOP's ignored
second byte as the byte it is (R147). -/

namespace Sys2Proof

inductive Instr where
  /-- `LD BC,d16`, bytes 01, R260 -/
  | ldBcD16 (nn : Word)
  /-- `LD B,d8`, bytes 06, R231 -/
  | ldBD8 (n : Byte)
  /-- `LD (a16),SP`, bytes 08, R261 -/
  | ldAtA16Sp (nn : Word)
  /-- `LD C,d8`, bytes 0E, R231 -/
  | ldCD8 (n : Byte)
  /-- `STOP`, bytes 10, R382 -/
  | stop (b : Byte)
  /-- `LD DE,d16`, bytes 11, R260 -/
  | ldDeD16 (nn : Word)
  /-- `LD D,d8`, bytes 16, R231 -/
  | ldDD8 (n : Byte)
  /-- `JR r8`, bytes 18, R363 -/
  | jrR8 (e : Int)
  /-- `LD E,d8`, bytes 1E, R231 -/
  | ldED8 (n : Byte)
  /-- `JR NZ,r8`, bytes 20, R364 -/
  | jrNzR8 (e : Int)
  /-- `LD HL,d16`, bytes 21, R260 -/
  | ldHlD16 (nn : Word)
  /-- `LD H,d8`, bytes 26, R231 -/
  | ldHD8 (n : Byte)
  /-- `JR Z,r8`, bytes 28, R364 -/
  | jrZR8 (e : Int)
  /-- `LD L,d8`, bytes 2E, R231 -/
  | ldLD8 (n : Byte)
  /-- `JR NC,r8`, bytes 30, R364 -/
  | jrNcR8 (e : Int)
  /-- `LD SP,d16`, bytes 31, R260 -/
  | ldSpD16 (nn : Word)
  /-- `LD (HL),d8`, bytes 36, R234 -/
  | ldAtHlD8 (n : Byte)
  /-- `JR C,r8`, bytes 38, R364 -/
  | jrCR8 (e : Int)
  /-- `LD A,d8`, bytes 3E, R231 -/
  | ldAD8 (n : Byte)
  /-- `JP NZ,a16`, bytes C2, R361 -/
  | jpNzA16 (nn : Word)
  /-- `JP a16`, bytes C3, R360 -/
  | jpA16 (nn : Word)
  /-- `CALL NZ,a16`, bytes C4, R367 -/
  | callNzA16 (nn : Word)
  /-- `ADD d8`, bytes C6, R280 -/
  | addD8 (n : Byte)
  /-- `JP Z,a16`, bytes CA, R361 -/
  | jpZA16 (nn : Word)
  /-- `CALL Z,a16`, bytes CC, R367 -/
  | callZA16 (nn : Word)
  /-- `CALL a16`, bytes CD, R366 -/
  | callA16 (nn : Word)
  /-- `ADC d8`, bytes CE, R281 -/
  | adcD8 (n : Byte)
  /-- `JP NC,a16`, bytes D2, R361 -/
  | jpNcA16 (nn : Word)
  /-- `CALL NC,a16`, bytes D4, R367 -/
  | callNcA16 (nn : Word)
  /-- `SUB d8`, bytes D6, R282 -/
  | subD8 (n : Byte)
  /-- `JP C,a16`, bytes DA, R361 -/
  | jpCA16 (nn : Word)
  /-- `CALL C,a16`, bytes DC, R367 -/
  | callCA16 (nn : Word)
  /-- `SBC d8`, bytes DE, R283 -/
  | sbcD8 (n : Byte)
  /-- `LDH (a8),A`, bytes E0, R240 -/
  | ldhAtA8A (n : Byte)
  /-- `AND d8`, bytes E6, R284 -/
  | andD8 (n : Byte)
  /-- `ADD SP,r8`, bytes E8, R323 -/
  | addSpR8 (e : Int)
  /-- `LD (a16),A`, bytes EA, R238 -/
  | ldAtA16A (nn : Word)
  /-- `XOR d8`, bytes EE, R285 -/
  | xorD8 (n : Byte)
  /-- `LDH A,(a8)`, bytes F0, R239 -/
  | ldhAAtA8 (n : Byte)
  /-- `OR d8`, bytes F6, R286 -/
  | orD8 (n : Byte)
  /-- `LD HL,SP+r8`, bytes F8, R263 -/
  | ldHlSpR8 (e : Int)
  /-- `LD A,(a16)`, bytes FA, R237 -/
  | ldAAtA16 (nn : Word)
  /-- `CP d8`, bytes FE, R287 -/
  | cpD8 (n : Byte)
  /-- `NOP`, bytes 00, R380 -/
  | nop
  /-- `LD (BC),A`, bytes 02, R236 -/
  | ldAtBcA
  /-- `INC BC`, bytes 03, R321 -/
  | incBc
  /-- `INC B`, bytes 04, R290 -/
  | incB
  /-- `DEC B`, bytes 05, R292 -/
  | decB
  /-- `RLCA`, bytes 07, R330 -/
  | rlca
  /-- `ADD HL,BC`, bytes 09, R320 -/
  | addHlBc
  /-- `LD A,(BC)`, bytes 0A, R235 -/
  | ldAAtBc
  /-- `DEC BC`, bytes 0B, R322 -/
  | decBc
  /-- `INC C`, bytes 0C, R290 -/
  | incC
  /-- `DEC C`, bytes 0D, R292 -/
  | decC
  /-- `RRCA`, bytes 0F, R331 -/
  | rrca
  /-- `LD (DE),A`, bytes 12, R236 -/
  | ldAtDeA
  /-- `INC DE`, bytes 13, R321 -/
  | incDe
  /-- `INC D`, bytes 14, R290 -/
  | incD
  /-- `DEC D`, bytes 15, R292 -/
  | decD
  /-- `RLA`, bytes 17, R332 -/
  | rla
  /-- `ADD HL,DE`, bytes 19, R320 -/
  | addHlDe
  /-- `LD A,(DE)`, bytes 1A, R235 -/
  | ldAAtDe
  /-- `DEC DE`, bytes 1B, R322 -/
  | decDe
  /-- `INC E`, bytes 1C, R290 -/
  | incE
  /-- `DEC E`, bytes 1D, R292 -/
  | decE
  /-- `RRA`, bytes 1F, R333 -/
  | rra
  /-- `LD (HL+),A`, bytes 22, R243 -/
  | ldAtHlIncA
  /-- `INC HL`, bytes 23, R321 -/
  | incHl
  /-- `INC H`, bytes 24, R290 -/
  | incH
  /-- `DEC H`, bytes 25, R292 -/
  | decH
  /-- `DAA`, bytes 27, R294 -/
  | daa
  /-- `ADD HL,HL`, bytes 29, R320 -/
  | addHlHl
  /-- `LD A,(HL+)`, bytes 2A, R245 -/
  | ldAAtHlInc
  /-- `DEC HL`, bytes 2B, R322 -/
  | decHl
  /-- `INC L`, bytes 2C, R290 -/
  | incL
  /-- `DEC L`, bytes 2D, R292 -/
  | decL
  /-- `CPL`, bytes 2F, R295 -/
  | cpl
  /-- `LD (HL-),A`, bytes 32, R244 -/
  | ldAtHlDecA
  /-- `INC SP`, bytes 33, R321 -/
  | incSp
  /-- `INC (HL)`, bytes 34, R291 -/
  | incAtHl
  /-- `DEC (HL)`, bytes 35, R293 -/
  | decAtHl
  /-- `SCF`, bytes 37, R296 -/
  | scf
  /-- `ADD HL,SP`, bytes 39, R320 -/
  | addHlSp
  /-- `LD A,(HL-)`, bytes 3A, R246 -/
  | ldAAtHlDec
  /-- `DEC SP`, bytes 3B, R322 -/
  | decSp
  /-- `INC A`, bytes 3C, R290 -/
  | incA
  /-- `DEC A`, bytes 3D, R292 -/
  | decA
  /-- `CCF`, bytes 3F, R297 -/
  | ccf
  /-- `LD B,B`, bytes 40, R230 -/
  | ldBB
  /-- `LD B,C`, bytes 41, R230 -/
  | ldBC
  /-- `LD B,D`, bytes 42, R230 -/
  | ldBD
  /-- `LD B,E`, bytes 43, R230 -/
  | ldBE
  /-- `LD B,H`, bytes 44, R230 -/
  | ldBH
  /-- `LD B,L`, bytes 45, R230 -/
  | ldBL
  /-- `LD B,(HL)`, bytes 46, R232 -/
  | ldBAtHl
  /-- `LD B,A`, bytes 47, R230 -/
  | ldBA
  /-- `LD C,B`, bytes 48, R230 -/
  | ldCB
  /-- `LD C,C`, bytes 49, R230 -/
  | ldCC
  /-- `LD C,D`, bytes 4A, R230 -/
  | ldCD
  /-- `LD C,E`, bytes 4B, R230 -/
  | ldCE
  /-- `LD C,H`, bytes 4C, R230 -/
  | ldCH
  /-- `LD C,L`, bytes 4D, R230 -/
  | ldCL
  /-- `LD C,(HL)`, bytes 4E, R232 -/
  | ldCAtHl
  /-- `LD C,A`, bytes 4F, R230 -/
  | ldCA
  /-- `LD D,B`, bytes 50, R230 -/
  | ldDB
  /-- `LD D,C`, bytes 51, R230 -/
  | ldDC
  /-- `LD D,D`, bytes 52, R230 -/
  | ldDD
  /-- `LD D,E`, bytes 53, R230 -/
  | ldDE
  /-- `LD D,H`, bytes 54, R230 -/
  | ldDH
  /-- `LD D,L`, bytes 55, R230 -/
  | ldDL
  /-- `LD D,(HL)`, bytes 56, R232 -/
  | ldDAtHl
  /-- `LD D,A`, bytes 57, R230 -/
  | ldDA
  /-- `LD E,B`, bytes 58, R230 -/
  | ldEB
  /-- `LD E,C`, bytes 59, R230 -/
  | ldEC
  /-- `LD E,D`, bytes 5A, R230 -/
  | ldED
  /-- `LD E,E`, bytes 5B, R230 -/
  | ldEE
  /-- `LD E,H`, bytes 5C, R230 -/
  | ldEH
  /-- `LD E,L`, bytes 5D, R230 -/
  | ldEL
  /-- `LD E,(HL)`, bytes 5E, R232 -/
  | ldEAtHl
  /-- `LD E,A`, bytes 5F, R230 -/
  | ldEA
  /-- `LD H,B`, bytes 60, R230 -/
  | ldHB
  /-- `LD H,C`, bytes 61, R230 -/
  | ldHC
  /-- `LD H,D`, bytes 62, R230 -/
  | ldHD
  /-- `LD H,E`, bytes 63, R230 -/
  | ldHE
  /-- `LD H,H`, bytes 64, R230 -/
  | ldHH
  /-- `LD H,L`, bytes 65, R230 -/
  | ldHL
  /-- `LD H,(HL)`, bytes 66, R232 -/
  | ldHAtHl
  /-- `LD H,A`, bytes 67, R230 -/
  | ldHA
  /-- `LD L,B`, bytes 68, R230 -/
  | ldLB
  /-- `LD L,C`, bytes 69, R230 -/
  | ldLC
  /-- `LD L,D`, bytes 6A, R230 -/
  | ldLD
  /-- `LD L,E`, bytes 6B, R230 -/
  | ldLE
  /-- `LD L,H`, bytes 6C, R230 -/
  | ldLH
  /-- `LD L,L`, bytes 6D, R230 -/
  | ldLL
  /-- `LD L,(HL)`, bytes 6E, R232 -/
  | ldLAtHl
  /-- `LD L,A`, bytes 6F, R230 -/
  | ldLA
  /-- `LD (HL),B`, bytes 70, R233 -/
  | ldAtHlB
  /-- `LD (HL),C`, bytes 71, R233 -/
  | ldAtHlC
  /-- `LD (HL),D`, bytes 72, R233 -/
  | ldAtHlD
  /-- `LD (HL),E`, bytes 73, R233 -/
  | ldAtHlE
  /-- `LD (HL),H`, bytes 74, R233 -/
  | ldAtHlH
  /-- `LD (HL),L`, bytes 75, R233 -/
  | ldAtHlL
  /-- `HALT`, bytes 76, R381 -/
  | halt
  /-- `LD (HL),A`, bytes 77, R233 -/
  | ldAtHlA
  /-- `LD A,B`, bytes 78, R230 -/
  | ldAB
  /-- `LD A,C`, bytes 79, R230 -/
  | ldAC
  /-- `LD A,D`, bytes 7A, R230 -/
  | ldAD
  /-- `LD A,E`, bytes 7B, R230 -/
  | ldAE
  /-- `LD A,H`, bytes 7C, R230 -/
  | ldAH
  /-- `LD A,L`, bytes 7D, R230 -/
  | ldAL
  /-- `LD A,(HL)`, bytes 7E, R232 -/
  | ldAAtHl
  /-- `LD A,A`, bytes 7F, R230 -/
  | ldAA
  /-- `ADD B`, bytes 80, R280 -/
  | addB
  /-- `ADD C`, bytes 81, R280 -/
  | addC
  /-- `ADD D`, bytes 82, R280 -/
  | addD
  /-- `ADD E`, bytes 83, R280 -/
  | addE
  /-- `ADD H`, bytes 84, R280 -/
  | addH
  /-- `ADD L`, bytes 85, R280 -/
  | addL
  /-- `ADD (HL)`, bytes 86, R280 -/
  | addAtHl
  /-- `ADD A`, bytes 87, R280 -/
  | addA
  /-- `ADC B`, bytes 88, R281 -/
  | adcB
  /-- `ADC C`, bytes 89, R281 -/
  | adcC
  /-- `ADC D`, bytes 8A, R281 -/
  | adcD
  /-- `ADC E`, bytes 8B, R281 -/
  | adcE
  /-- `ADC H`, bytes 8C, R281 -/
  | adcH
  /-- `ADC L`, bytes 8D, R281 -/
  | adcL
  /-- `ADC (HL)`, bytes 8E, R281 -/
  | adcAtHl
  /-- `ADC A`, bytes 8F, R281 -/
  | adcA
  /-- `SUB B`, bytes 90, R282 -/
  | subB
  /-- `SUB C`, bytes 91, R282 -/
  | subC
  /-- `SUB D`, bytes 92, R282 -/
  | subD
  /-- `SUB E`, bytes 93, R282 -/
  | subE
  /-- `SUB H`, bytes 94, R282 -/
  | subH
  /-- `SUB L`, bytes 95, R282 -/
  | subL
  /-- `SUB (HL)`, bytes 96, R282 -/
  | subAtHl
  /-- `SUB A`, bytes 97, R282 -/
  | subA
  /-- `SBC B`, bytes 98, R283 -/
  | sbcB
  /-- `SBC C`, bytes 99, R283 -/
  | sbcC
  /-- `SBC D`, bytes 9A, R283 -/
  | sbcD
  /-- `SBC E`, bytes 9B, R283 -/
  | sbcE
  /-- `SBC H`, bytes 9C, R283 -/
  | sbcH
  /-- `SBC L`, bytes 9D, R283 -/
  | sbcL
  /-- `SBC (HL)`, bytes 9E, R283 -/
  | sbcAtHl
  /-- `SBC A`, bytes 9F, R283 -/
  | sbcA
  /-- `AND B`, bytes A0, R284 -/
  | andB
  /-- `AND C`, bytes A1, R284 -/
  | andC
  /-- `AND D`, bytes A2, R284 -/
  | andD
  /-- `AND E`, bytes A3, R284 -/
  | andE
  /-- `AND H`, bytes A4, R284 -/
  | andH
  /-- `AND L`, bytes A5, R284 -/
  | andL
  /-- `AND (HL)`, bytes A6, R284 -/
  | andAtHl
  /-- `AND A`, bytes A7, R284 -/
  | andA
  /-- `XOR B`, bytes A8, R285 -/
  | xorB
  /-- `XOR C`, bytes A9, R285 -/
  | xorC
  /-- `XOR D`, bytes AA, R285 -/
  | xorD
  /-- `XOR E`, bytes AB, R285 -/
  | xorE
  /-- `XOR H`, bytes AC, R285 -/
  | xorH
  /-- `XOR L`, bytes AD, R285 -/
  | xorL
  /-- `XOR (HL)`, bytes AE, R285 -/
  | xorAtHl
  /-- `XOR A`, bytes AF, R285 -/
  | xorA
  /-- `OR B`, bytes B0, R286 -/
  | orB
  /-- `OR C`, bytes B1, R286 -/
  | orC
  /-- `OR D`, bytes B2, R286 -/
  | orD
  /-- `OR E`, bytes B3, R286 -/
  | orE
  /-- `OR H`, bytes B4, R286 -/
  | orH
  /-- `OR L`, bytes B5, R286 -/
  | orL
  /-- `OR (HL)`, bytes B6, R286 -/
  | orAtHl
  /-- `OR A`, bytes B7, R286 -/
  | orA
  /-- `CP B`, bytes B8, R287 -/
  | cpB
  /-- `CP C`, bytes B9, R287 -/
  | cpC
  /-- `CP D`, bytes BA, R287 -/
  | cpD
  /-- `CP E`, bytes BB, R287 -/
  | cpE
  /-- `CP H`, bytes BC, R287 -/
  | cpH
  /-- `CP L`, bytes BD, R287 -/
  | cpL
  /-- `CP (HL)`, bytes BE, R287 -/
  | cpAtHl
  /-- `CP A`, bytes BF, R287 -/
  | cpA
  /-- `RET NZ`, bytes C0, R369 -/
  | retNz
  /-- `POP BC`, bytes C1, R265 -/
  | popBc
  /-- `PUSH BC`, bytes C5, R264 -/
  | pushBc
  /-- `RST 00H`, bytes C7, R371 -/
  | rst00
  /-- `RET Z`, bytes C8, R369 -/
  | retZ
  /-- `RET`, bytes C9, R368 -/
  | ret
  /-- `RST 08H`, bytes CF, R371 -/
  | rst08
  /-- `RET NC`, bytes D0, R369 -/
  | retNc
  /-- `POP DE`, bytes D1, R265 -/
  | popDe
  /-- `ILLEGAL_D3`, bytes D3, R385 -/
  | illegalD3
  /-- `PUSH DE`, bytes D5, R264 -/
  | pushDe
  /-- `RST 10H`, bytes D7, R371 -/
  | rst10
  /-- `RET C`, bytes D8, R369 -/
  | retC
  /-- `RETI`, bytes D9, R370 -/
  | reti
  /-- `ILLEGAL_DB`, bytes DB, R385 -/
  | illegalDB
  /-- `ILLEGAL_DD`, bytes DD, R385 -/
  | illegalDD
  /-- `RST 18H`, bytes DF, R371 -/
  | rst18
  /-- `POP HL`, bytes E1, R265 -/
  | popHl
  /-- `LD (C),A`, bytes E2, R242 -/
  | ldAtCA
  /-- `ILLEGAL_E3`, bytes E3, R385 -/
  | illegalE3
  /-- `ILLEGAL_E4`, bytes E4, R385 -/
  | illegalE4
  /-- `PUSH HL`, bytes E5, R264 -/
  | pushHl
  /-- `RST 20H`, bytes E7, R371 -/
  | rst20
  /-- `JP (HL)`, bytes E9, R362 -/
  | jpAtHl
  /-- `ILLEGAL_EB`, bytes EB, R385 -/
  | illegalEB
  /-- `ILLEGAL_EC`, bytes EC, R385 -/
  | illegalEC
  /-- `ILLEGAL_ED`, bytes ED, R385 -/
  | illegalED
  /-- `RST 28H`, bytes EF, R371 -/
  | rst28
  /-- `POP AF`, bytes F1, R266 -/
  | popAf
  /-- `LD A,(C)`, bytes F2, R241 -/
  | ldAAtC
  /-- `DI`, bytes F3, R383 -/
  | di
  /-- `ILLEGAL_F4`, bytes F4, R385 -/
  | illegalF4
  /-- `PUSH AF`, bytes F5, R264 -/
  | pushAf
  /-- `RST 30H`, bytes F7, R371 -/
  | rst30
  /-- `LD SP,HL`, bytes F9, R262 -/
  | ldSpHl
  /-- `EI`, bytes FB, R384 -/
  | ei
  /-- `ILLEGAL_FC`, bytes FC, R385 -/
  | illegalFC
  /-- `ILLEGAL_FD`, bytes FD, R385 -/
  | illegalFD
  /-- `RST 38H`, bytes FF, R371 -/
  | rst38
  /-- `RLC B`, bytes CB 00, R334 -/
  | rlcB
  /-- `RLC C`, bytes CB 01, R334 -/
  | rlcC
  /-- `RLC D`, bytes CB 02, R334 -/
  | rlcD
  /-- `RLC E`, bytes CB 03, R334 -/
  | rlcE
  /-- `RLC H`, bytes CB 04, R334 -/
  | rlcH
  /-- `RLC L`, bytes CB 05, R334 -/
  | rlcL
  /-- `RLC (HL)`, bytes CB 06, R334 -/
  | rlcAtHl
  /-- `RLC A`, bytes CB 07, R334 -/
  | rlcA
  /-- `RRC B`, bytes CB 08, R335 -/
  | rrcB
  /-- `RRC C`, bytes CB 09, R335 -/
  | rrcC
  /-- `RRC D`, bytes CB 0A, R335 -/
  | rrcD
  /-- `RRC E`, bytes CB 0B, R335 -/
  | rrcE
  /-- `RRC H`, bytes CB 0C, R335 -/
  | rrcH
  /-- `RRC L`, bytes CB 0D, R335 -/
  | rrcL
  /-- `RRC (HL)`, bytes CB 0E, R335 -/
  | rrcAtHl
  /-- `RRC A`, bytes CB 0F, R335 -/
  | rrcA
  /-- `RL B`, bytes CB 10, R336 -/
  | rlB
  /-- `RL C`, bytes CB 11, R336 -/
  | rlC
  /-- `RL D`, bytes CB 12, R336 -/
  | rlD
  /-- `RL E`, bytes CB 13, R336 -/
  | rlE
  /-- `RL H`, bytes CB 14, R336 -/
  | rlH
  /-- `RL L`, bytes CB 15, R336 -/
  | rlL
  /-- `RL (HL)`, bytes CB 16, R336 -/
  | rlAtHl
  /-- `RL A`, bytes CB 17, R336 -/
  | rlA
  /-- `RR B`, bytes CB 18, R337 -/
  | rrB
  /-- `RR C`, bytes CB 19, R337 -/
  | rrC
  /-- `RR D`, bytes CB 1A, R337 -/
  | rrD
  /-- `RR E`, bytes CB 1B, R337 -/
  | rrE
  /-- `RR H`, bytes CB 1C, R337 -/
  | rrH
  /-- `RR L`, bytes CB 1D, R337 -/
  | rrL
  /-- `RR (HL)`, bytes CB 1E, R337 -/
  | rrAtHl
  /-- `RR A`, bytes CB 1F, R337 -/
  | rrA
  /-- `SLA B`, bytes CB 20, R338 -/
  | slaB
  /-- `SLA C`, bytes CB 21, R338 -/
  | slaC
  /-- `SLA D`, bytes CB 22, R338 -/
  | slaD
  /-- `SLA E`, bytes CB 23, R338 -/
  | slaE
  /-- `SLA H`, bytes CB 24, R338 -/
  | slaH
  /-- `SLA L`, bytes CB 25, R338 -/
  | slaL
  /-- `SLA (HL)`, bytes CB 26, R338 -/
  | slaAtHl
  /-- `SLA A`, bytes CB 27, R338 -/
  | slaA
  /-- `SRA B`, bytes CB 28, R339 -/
  | sraB
  /-- `SRA C`, bytes CB 29, R339 -/
  | sraC
  /-- `SRA D`, bytes CB 2A, R339 -/
  | sraD
  /-- `SRA E`, bytes CB 2B, R339 -/
  | sraE
  /-- `SRA H`, bytes CB 2C, R339 -/
  | sraH
  /-- `SRA L`, bytes CB 2D, R339 -/
  | sraL
  /-- `SRA (HL)`, bytes CB 2E, R339 -/
  | sraAtHl
  /-- `SRA A`, bytes CB 2F, R339 -/
  | sraA
  /-- `SWAP B`, bytes CB 30, R340 -/
  | swapB
  /-- `SWAP C`, bytes CB 31, R340 -/
  | swapC
  /-- `SWAP D`, bytes CB 32, R340 -/
  | swapD
  /-- `SWAP E`, bytes CB 33, R340 -/
  | swapE
  /-- `SWAP H`, bytes CB 34, R340 -/
  | swapH
  /-- `SWAP L`, bytes CB 35, R340 -/
  | swapL
  /-- `SWAP (HL)`, bytes CB 36, R340 -/
  | swapAtHl
  /-- `SWAP A`, bytes CB 37, R340 -/
  | swapA
  /-- `SRL B`, bytes CB 38, R341 -/
  | srlB
  /-- `SRL C`, bytes CB 39, R341 -/
  | srlC
  /-- `SRL D`, bytes CB 3A, R341 -/
  | srlD
  /-- `SRL E`, bytes CB 3B, R341 -/
  | srlE
  /-- `SRL H`, bytes CB 3C, R341 -/
  | srlH
  /-- `SRL L`, bytes CB 3D, R341 -/
  | srlL
  /-- `SRL (HL)`, bytes CB 3E, R341 -/
  | srlAtHl
  /-- `SRL A`, bytes CB 3F, R341 -/
  | srlA
  /-- `BIT 0,B`, bytes CB 40, R342 -/
  | bit0B
  /-- `BIT 0,C`, bytes CB 41, R342 -/
  | bit0C
  /-- `BIT 0,D`, bytes CB 42, R342 -/
  | bit0D
  /-- `BIT 0,E`, bytes CB 43, R342 -/
  | bit0E
  /-- `BIT 0,H`, bytes CB 44, R342 -/
  | bit0H
  /-- `BIT 0,L`, bytes CB 45, R342 -/
  | bit0L
  /-- `BIT 0,(HL)`, bytes CB 46, R342 -/
  | bit0AtHl
  /-- `BIT 0,A`, bytes CB 47, R342 -/
  | bit0A
  /-- `BIT 1,B`, bytes CB 48, R342 -/
  | bit1B
  /-- `BIT 1,C`, bytes CB 49, R342 -/
  | bit1C
  /-- `BIT 1,D`, bytes CB 4A, R342 -/
  | bit1D
  /-- `BIT 1,E`, bytes CB 4B, R342 -/
  | bit1E
  /-- `BIT 1,H`, bytes CB 4C, R342 -/
  | bit1H
  /-- `BIT 1,L`, bytes CB 4D, R342 -/
  | bit1L
  /-- `BIT 1,(HL)`, bytes CB 4E, R342 -/
  | bit1AtHl
  /-- `BIT 1,A`, bytes CB 4F, R342 -/
  | bit1A
  /-- `BIT 2,B`, bytes CB 50, R342 -/
  | bit2B
  /-- `BIT 2,C`, bytes CB 51, R342 -/
  | bit2C
  /-- `BIT 2,D`, bytes CB 52, R342 -/
  | bit2D
  /-- `BIT 2,E`, bytes CB 53, R342 -/
  | bit2E
  /-- `BIT 2,H`, bytes CB 54, R342 -/
  | bit2H
  /-- `BIT 2,L`, bytes CB 55, R342 -/
  | bit2L
  /-- `BIT 2,(HL)`, bytes CB 56, R342 -/
  | bit2AtHl
  /-- `BIT 2,A`, bytes CB 57, R342 -/
  | bit2A
  /-- `BIT 3,B`, bytes CB 58, R342 -/
  | bit3B
  /-- `BIT 3,C`, bytes CB 59, R342 -/
  | bit3C
  /-- `BIT 3,D`, bytes CB 5A, R342 -/
  | bit3D
  /-- `BIT 3,E`, bytes CB 5B, R342 -/
  | bit3E
  /-- `BIT 3,H`, bytes CB 5C, R342 -/
  | bit3H
  /-- `BIT 3,L`, bytes CB 5D, R342 -/
  | bit3L
  /-- `BIT 3,(HL)`, bytes CB 5E, R342 -/
  | bit3AtHl
  /-- `BIT 3,A`, bytes CB 5F, R342 -/
  | bit3A
  /-- `BIT 4,B`, bytes CB 60, R342 -/
  | bit4B
  /-- `BIT 4,C`, bytes CB 61, R342 -/
  | bit4C
  /-- `BIT 4,D`, bytes CB 62, R342 -/
  | bit4D
  /-- `BIT 4,E`, bytes CB 63, R342 -/
  | bit4E
  /-- `BIT 4,H`, bytes CB 64, R342 -/
  | bit4H
  /-- `BIT 4,L`, bytes CB 65, R342 -/
  | bit4L
  /-- `BIT 4,(HL)`, bytes CB 66, R342 -/
  | bit4AtHl
  /-- `BIT 4,A`, bytes CB 67, R342 -/
  | bit4A
  /-- `BIT 5,B`, bytes CB 68, R342 -/
  | bit5B
  /-- `BIT 5,C`, bytes CB 69, R342 -/
  | bit5C
  /-- `BIT 5,D`, bytes CB 6A, R342 -/
  | bit5D
  /-- `BIT 5,E`, bytes CB 6B, R342 -/
  | bit5E
  /-- `BIT 5,H`, bytes CB 6C, R342 -/
  | bit5H
  /-- `BIT 5,L`, bytes CB 6D, R342 -/
  | bit5L
  /-- `BIT 5,(HL)`, bytes CB 6E, R342 -/
  | bit5AtHl
  /-- `BIT 5,A`, bytes CB 6F, R342 -/
  | bit5A
  /-- `BIT 6,B`, bytes CB 70, R342 -/
  | bit6B
  /-- `BIT 6,C`, bytes CB 71, R342 -/
  | bit6C
  /-- `BIT 6,D`, bytes CB 72, R342 -/
  | bit6D
  /-- `BIT 6,E`, bytes CB 73, R342 -/
  | bit6E
  /-- `BIT 6,H`, bytes CB 74, R342 -/
  | bit6H
  /-- `BIT 6,L`, bytes CB 75, R342 -/
  | bit6L
  /-- `BIT 6,(HL)`, bytes CB 76, R342 -/
  | bit6AtHl
  /-- `BIT 6,A`, bytes CB 77, R342 -/
  | bit6A
  /-- `BIT 7,B`, bytes CB 78, R342 -/
  | bit7B
  /-- `BIT 7,C`, bytes CB 79, R342 -/
  | bit7C
  /-- `BIT 7,D`, bytes CB 7A, R342 -/
  | bit7D
  /-- `BIT 7,E`, bytes CB 7B, R342 -/
  | bit7E
  /-- `BIT 7,H`, bytes CB 7C, R342 -/
  | bit7H
  /-- `BIT 7,L`, bytes CB 7D, R342 -/
  | bit7L
  /-- `BIT 7,(HL)`, bytes CB 7E, R342 -/
  | bit7AtHl
  /-- `BIT 7,A`, bytes CB 7F, R342 -/
  | bit7A
  /-- `RES 0,B`, bytes CB 80, R343 -/
  | res0B
  /-- `RES 0,C`, bytes CB 81, R343 -/
  | res0C
  /-- `RES 0,D`, bytes CB 82, R343 -/
  | res0D
  /-- `RES 0,E`, bytes CB 83, R343 -/
  | res0E
  /-- `RES 0,H`, bytes CB 84, R343 -/
  | res0H
  /-- `RES 0,L`, bytes CB 85, R343 -/
  | res0L
  /-- `RES 0,(HL)`, bytes CB 86, R343 -/
  | res0AtHl
  /-- `RES 0,A`, bytes CB 87, R343 -/
  | res0A
  /-- `RES 1,B`, bytes CB 88, R343 -/
  | res1B
  /-- `RES 1,C`, bytes CB 89, R343 -/
  | res1C
  /-- `RES 1,D`, bytes CB 8A, R343 -/
  | res1D
  /-- `RES 1,E`, bytes CB 8B, R343 -/
  | res1E
  /-- `RES 1,H`, bytes CB 8C, R343 -/
  | res1H
  /-- `RES 1,L`, bytes CB 8D, R343 -/
  | res1L
  /-- `RES 1,(HL)`, bytes CB 8E, R343 -/
  | res1AtHl
  /-- `RES 1,A`, bytes CB 8F, R343 -/
  | res1A
  /-- `RES 2,B`, bytes CB 90, R343 -/
  | res2B
  /-- `RES 2,C`, bytes CB 91, R343 -/
  | res2C
  /-- `RES 2,D`, bytes CB 92, R343 -/
  | res2D
  /-- `RES 2,E`, bytes CB 93, R343 -/
  | res2E
  /-- `RES 2,H`, bytes CB 94, R343 -/
  | res2H
  /-- `RES 2,L`, bytes CB 95, R343 -/
  | res2L
  /-- `RES 2,(HL)`, bytes CB 96, R343 -/
  | res2AtHl
  /-- `RES 2,A`, bytes CB 97, R343 -/
  | res2A
  /-- `RES 3,B`, bytes CB 98, R343 -/
  | res3B
  /-- `RES 3,C`, bytes CB 99, R343 -/
  | res3C
  /-- `RES 3,D`, bytes CB 9A, R343 -/
  | res3D
  /-- `RES 3,E`, bytes CB 9B, R343 -/
  | res3E
  /-- `RES 3,H`, bytes CB 9C, R343 -/
  | res3H
  /-- `RES 3,L`, bytes CB 9D, R343 -/
  | res3L
  /-- `RES 3,(HL)`, bytes CB 9E, R343 -/
  | res3AtHl
  /-- `RES 3,A`, bytes CB 9F, R343 -/
  | res3A
  /-- `RES 4,B`, bytes CB A0, R343 -/
  | res4B
  /-- `RES 4,C`, bytes CB A1, R343 -/
  | res4C
  /-- `RES 4,D`, bytes CB A2, R343 -/
  | res4D
  /-- `RES 4,E`, bytes CB A3, R343 -/
  | res4E
  /-- `RES 4,H`, bytes CB A4, R343 -/
  | res4H
  /-- `RES 4,L`, bytes CB A5, R343 -/
  | res4L
  /-- `RES 4,(HL)`, bytes CB A6, R343 -/
  | res4AtHl
  /-- `RES 4,A`, bytes CB A7, R343 -/
  | res4A
  /-- `RES 5,B`, bytes CB A8, R343 -/
  | res5B
  /-- `RES 5,C`, bytes CB A9, R343 -/
  | res5C
  /-- `RES 5,D`, bytes CB AA, R343 -/
  | res5D
  /-- `RES 5,E`, bytes CB AB, R343 -/
  | res5E
  /-- `RES 5,H`, bytes CB AC, R343 -/
  | res5H
  /-- `RES 5,L`, bytes CB AD, R343 -/
  | res5L
  /-- `RES 5,(HL)`, bytes CB AE, R343 -/
  | res5AtHl
  /-- `RES 5,A`, bytes CB AF, R343 -/
  | res5A
  /-- `RES 6,B`, bytes CB B0, R343 -/
  | res6B
  /-- `RES 6,C`, bytes CB B1, R343 -/
  | res6C
  /-- `RES 6,D`, bytes CB B2, R343 -/
  | res6D
  /-- `RES 6,E`, bytes CB B3, R343 -/
  | res6E
  /-- `RES 6,H`, bytes CB B4, R343 -/
  | res6H
  /-- `RES 6,L`, bytes CB B5, R343 -/
  | res6L
  /-- `RES 6,(HL)`, bytes CB B6, R343 -/
  | res6AtHl
  /-- `RES 6,A`, bytes CB B7, R343 -/
  | res6A
  /-- `RES 7,B`, bytes CB B8, R343 -/
  | res7B
  /-- `RES 7,C`, bytes CB B9, R343 -/
  | res7C
  /-- `RES 7,D`, bytes CB BA, R343 -/
  | res7D
  /-- `RES 7,E`, bytes CB BB, R343 -/
  | res7E
  /-- `RES 7,H`, bytes CB BC, R343 -/
  | res7H
  /-- `RES 7,L`, bytes CB BD, R343 -/
  | res7L
  /-- `RES 7,(HL)`, bytes CB BE, R343 -/
  | res7AtHl
  /-- `RES 7,A`, bytes CB BF, R343 -/
  | res7A
  /-- `SET 0,B`, bytes CB C0, R344 -/
  | set0B
  /-- `SET 0,C`, bytes CB C1, R344 -/
  | set0C
  /-- `SET 0,D`, bytes CB C2, R344 -/
  | set0D
  /-- `SET 0,E`, bytes CB C3, R344 -/
  | set0E
  /-- `SET 0,H`, bytes CB C4, R344 -/
  | set0H
  /-- `SET 0,L`, bytes CB C5, R344 -/
  | set0L
  /-- `SET 0,(HL)`, bytes CB C6, R344 -/
  | set0AtHl
  /-- `SET 0,A`, bytes CB C7, R344 -/
  | set0A
  /-- `SET 1,B`, bytes CB C8, R344 -/
  | set1B
  /-- `SET 1,C`, bytes CB C9, R344 -/
  | set1C
  /-- `SET 1,D`, bytes CB CA, R344 -/
  | set1D
  /-- `SET 1,E`, bytes CB CB, R344 -/
  | set1E
  /-- `SET 1,H`, bytes CB CC, R344 -/
  | set1H
  /-- `SET 1,L`, bytes CB CD, R344 -/
  | set1L
  /-- `SET 1,(HL)`, bytes CB CE, R344 -/
  | set1AtHl
  /-- `SET 1,A`, bytes CB CF, R344 -/
  | set1A
  /-- `SET 2,B`, bytes CB D0, R344 -/
  | set2B
  /-- `SET 2,C`, bytes CB D1, R344 -/
  | set2C
  /-- `SET 2,D`, bytes CB D2, R344 -/
  | set2D
  /-- `SET 2,E`, bytes CB D3, R344 -/
  | set2E
  /-- `SET 2,H`, bytes CB D4, R344 -/
  | set2H
  /-- `SET 2,L`, bytes CB D5, R344 -/
  | set2L
  /-- `SET 2,(HL)`, bytes CB D6, R344 -/
  | set2AtHl
  /-- `SET 2,A`, bytes CB D7, R344 -/
  | set2A
  /-- `SET 3,B`, bytes CB D8, R344 -/
  | set3B
  /-- `SET 3,C`, bytes CB D9, R344 -/
  | set3C
  /-- `SET 3,D`, bytes CB DA, R344 -/
  | set3D
  /-- `SET 3,E`, bytes CB DB, R344 -/
  | set3E
  /-- `SET 3,H`, bytes CB DC, R344 -/
  | set3H
  /-- `SET 3,L`, bytes CB DD, R344 -/
  | set3L
  /-- `SET 3,(HL)`, bytes CB DE, R344 -/
  | set3AtHl
  /-- `SET 3,A`, bytes CB DF, R344 -/
  | set3A
  /-- `SET 4,B`, bytes CB E0, R344 -/
  | set4B
  /-- `SET 4,C`, bytes CB E1, R344 -/
  | set4C
  /-- `SET 4,D`, bytes CB E2, R344 -/
  | set4D
  /-- `SET 4,E`, bytes CB E3, R344 -/
  | set4E
  /-- `SET 4,H`, bytes CB E4, R344 -/
  | set4H
  /-- `SET 4,L`, bytes CB E5, R344 -/
  | set4L
  /-- `SET 4,(HL)`, bytes CB E6, R344 -/
  | set4AtHl
  /-- `SET 4,A`, bytes CB E7, R344 -/
  | set4A
  /-- `SET 5,B`, bytes CB E8, R344 -/
  | set5B
  /-- `SET 5,C`, bytes CB E9, R344 -/
  | set5C
  /-- `SET 5,D`, bytes CB EA, R344 -/
  | set5D
  /-- `SET 5,E`, bytes CB EB, R344 -/
  | set5E
  /-- `SET 5,H`, bytes CB EC, R344 -/
  | set5H
  /-- `SET 5,L`, bytes CB ED, R344 -/
  | set5L
  /-- `SET 5,(HL)`, bytes CB EE, R344 -/
  | set5AtHl
  /-- `SET 5,A`, bytes CB EF, R344 -/
  | set5A
  /-- `SET 6,B`, bytes CB F0, R344 -/
  | set6B
  /-- `SET 6,C`, bytes CB F1, R344 -/
  | set6C
  /-- `SET 6,D`, bytes CB F2, R344 -/
  | set6D
  /-- `SET 6,E`, bytes CB F3, R344 -/
  | set6E
  /-- `SET 6,H`, bytes CB F4, R344 -/
  | set6H
  /-- `SET 6,L`, bytes CB F5, R344 -/
  | set6L
  /-- `SET 6,(HL)`, bytes CB F6, R344 -/
  | set6AtHl
  /-- `SET 6,A`, bytes CB F7, R344 -/
  | set6A
  /-- `SET 7,B`, bytes CB F8, R344 -/
  | set7B
  /-- `SET 7,C`, bytes CB F9, R344 -/
  | set7C
  /-- `SET 7,D`, bytes CB FA, R344 -/
  | set7D
  /-- `SET 7,E`, bytes CB FB, R344 -/
  | set7E
  /-- `SET 7,H`, bytes CB FC, R344 -/
  | set7H
  /-- `SET 7,L`, bytes CB FD, R344 -/
  | set7L
  /-- `SET 7,(HL)`, bytes CB FE, R344 -/
  | set7AtHl
  /-- `SET 7,A`, bytes CB FF, R344 -/
  | set7A
  deriving DecidableEq, Repr

end Sys2Proof
end

