-- ==== Sys2Proof/Machine/Form.lean ====
section
/-! DEFINITION. The operand vocabulary (spec/30_encoding.md R135 to R137) and the parameterised form of every
instruction: the shape its rule of spec/41 to 47 gives it, with the register, condition, operation or bit number
that the rule leaves as a parameter. The encoder, the micro-op lists and the statements are written over forms;
the machine dispatches on `Instr` itself. -/

namespace Sys2Proof.Machine

/-- The seven 8-bit registers an encoding can name (10_state R20, R23). -/
inductive Reg8 where
  | b | c | d | e | h | l | a
  deriving DecidableEq, Repr

/-- `r16[p]` of 30_encoding R136. -/
inductive Reg16 where
  | bc | de | hl | sp
  deriving DecidableEq, Repr

/-- `r16stk[p]` of 30_encoding R136. -/
inductive StackReg where
  | bc | de | hl | af
  deriving DecidableEq, Repr

/-- The condition codes of 30_encoding R137. -/
inductive Cond where
  | nz | z | nc | c
  deriving DecidableEq, Repr

/-- The two-operand ALU operations of 43_alu8 R289. -/
inductive AluOp where
  | add | adc | sub | sbc | and | xor | or | cp
  deriving DecidableEq, Repr

/-- The rotate and shift operations of 30_encoding R144. -/
inductive ShiftOp where
  | rlc | rrc | rl | rr | sla | sra | swap | srl
  deriving DecidableEq, Repr

/-- The index of a register in `r8` (30_encoding R135; index 6 is the cell at HL). -/
def Reg8.index : Reg8 → Nat
  | .b => 0 | .c => 1 | .d => 2 | .e => 3 | .h => 4 | .l => 5 | .a => 7

def Reg16.index : Reg16 → Nat
  | .bc => 0 | .de => 1 | .hl => 2 | .sp => 3

def StackReg.index : StackReg → Nat
  | .bc => 0 | .de => 1 | .hl => 2 | .af => 3

def Cond.index : Cond → Nat
  | .nz => 0 | .z => 1 | .nc => 2 | .c => 3

/-- The operation number `n` of 43_alu8 R289. -/
def AluOp.index : AluOp → Nat
  | .add => 0 | .adc => 1 | .sub => 2 | .sbc => 3 | .and => 4 | .xor => 5 | .or => 6 | .cp => 7

def ShiftOp.index : ShiftOp → Nat
  | .rlc => 0 | .rrc => 1 | .rl => 2 | .rr => 3 | .sla => 4 | .sra => 5 | .swap => 6 | .srl => 7

/-- One constructor per instruction rule of spec/41_load8.md to spec/47_system.md. -/
inductive Form where
  /-- R230 -/
  | ldRR (dst src : Reg8)
  /-- R231 -/
  | ldRD8 (dst : Reg8) (n : Byte)
  /-- R232 -/
  | ldRHl (dst : Reg8)
  /-- R233 -/
  | ldHlR (src : Reg8)
  /-- R234 -/
  | ldHlD8 (n : Byte)
  /-- R235 -/
  | ldABc
  /-- R235 -/
  | ldADe
  /-- R236 -/
  | ldBcA
  /-- R236 -/
  | ldDeA
  /-- R237 -/
  | ldAA16 (nn : Word)
  /-- R238 -/
  | ldA16A (nn : Word)
  /-- R239 -/
  | ldhAA8 (n : Byte)
  /-- R240 -/
  | ldhA8A (n : Byte)
  /-- R241 -/
  | ldACMem
  /-- R242 -/
  | ldCMemA
  /-- R243 -/
  | ldHlIncA
  /-- R244 -/
  | ldHlDecA
  /-- R245 -/
  | ldAHlInc
  /-- R246 -/
  | ldAHlDec
  /-- R260 -/
  | ldRrD16 (rr : Reg16) (nn : Word)
  /-- R261 -/
  | ldA16Sp (nn : Word)
  /-- R262 -/
  | ldSpHl
  /-- R263 -/
  | ldHlSpR8 (e : Int)
  /-- R264 -/
  | push (rr : StackReg)
  /-- R265, R266 -/
  | pop (rr : StackReg)
  /-- R280 to R287 -/
  | aluR (op : AluOp) (src : Reg8)
  /-- R280 to R287 -/
  | aluHl (op : AluOp)
  /-- R280 to R287 -/
  | aluD8 (op : AluOp) (n : Byte)
  /-- R290 -/
  | incR (r : Reg8)
  /-- R291 -/
  | incHlMem
  /-- R292 -/
  | decR (r : Reg8)
  /-- R293 -/
  | decHlMem
  /-- R294 -/
  | daa
  /-- R295 -/
  | cpl
  /-- R296 -/
  | scf
  /-- R297 -/
  | ccf
  /-- R320 -/
  | addHlRr (rr : Reg16)
  /-- R321 -/
  | incRr (rr : Reg16)
  /-- R322 -/
  | decRr (rr : Reg16)
  /-- R323 -/
  | addSpR8 (e : Int)
  /-- R330 -/
  | rlca
  /-- R331 -/
  | rrca
  /-- R332 -/
  | rla
  /-- R333 -/
  | rra
  /-- R334 to R341 -/
  | shiftR (op : ShiftOp) (r : Reg8)
  /-- R334 to R341 -/
  | shiftHl (op : ShiftOp)
  /-- R342 -/
  | bitR (k : Fin 8) (r : Reg8)
  /-- R342 -/
  | bitHl (k : Fin 8)
  /-- R343 -/
  | resR (k : Fin 8) (r : Reg8)
  /-- R343 -/
  | resHl (k : Fin 8)
  /-- R344 -/
  | setR (k : Fin 8) (r : Reg8)
  /-- R344 -/
  | setHl (k : Fin 8)
  /-- R360 -/
  | jp (nn : Word)
  /-- R361 -/
  | jpCc (cc : Cond) (nn : Word)
  /-- R362 -/
  | jpHl
  /-- R363 -/
  | jr (e : Int)
  /-- R364 -/
  | jrCc (cc : Cond) (e : Int)
  /-- R366 -/
  | call (nn : Word)
  /-- R367 -/
  | callCc (cc : Cond) (nn : Word)
  /-- R368 -/
  | ret
  /-- R369 -/
  | retCc (cc : Cond)
  /-- R370 -/
  | reti
  /-- R371 -/
  | rst (y : Fin 8)
  /-- R380 -/
  | nop
  /-- R381 -/
  | halt
  /-- R382 -/
  | stop (b : Byte)
  /-- R383 -/
  | di
  /-- R384 -/
  | ei
  /-- R385 -/
  | illegal (b : Byte)
  deriving DecidableEq, Repr

/-- The form of an instruction. -/
def form (i : Instr) : Form :=
  match i with
  | .ldBcD16 nn => .ldRrD16 .bc nn
  | .ldBD8 n => .ldRD8 .b n
  | .ldAtA16Sp nn => .ldA16Sp nn
  | .ldCD8 n => .ldRD8 .c n
  | .stop b => .stop b
  | .ldDeD16 nn => .ldRrD16 .de nn
  | .ldDD8 n => .ldRD8 .d n
  | .jrR8 e => .jr e
  | .ldED8 n => .ldRD8 .e n
  | .jrNzR8 e => .jrCc .nz e
  | .ldHlD16 nn => .ldRrD16 .hl nn
  | .ldHD8 n => .ldRD8 .h n
  | .jrZR8 e => .jrCc .z e
  | .ldLD8 n => .ldRD8 .l n
  | .jrNcR8 e => .jrCc .nc e
  | .ldSpD16 nn => .ldRrD16 .sp nn
  | .ldAtHlD8 n => .ldHlD8 n
  | .jrCR8 e => .jrCc .c e
  | .ldAD8 n => .ldRD8 .a n
  | .jpNzA16 nn => .jpCc .nz nn
  | .jpA16 nn => .jp nn
  | .callNzA16 nn => .callCc .nz nn
  | .addD8 n => .aluD8 .add n
  | .jpZA16 nn => .jpCc .z nn
  | .callZA16 nn => .callCc .z nn
  | .callA16 nn => .call nn
  | .adcD8 n => .aluD8 .adc n
  | .jpNcA16 nn => .jpCc .nc nn
  | .callNcA16 nn => .callCc .nc nn
  | .subD8 n => .aluD8 .sub n
  | .jpCA16 nn => .jpCc .c nn
  | .callCA16 nn => .callCc .c nn
  | .sbcD8 n => .aluD8 .sbc n
  | .ldhAtA8A n => .ldhA8A n
  | .andD8 n => .aluD8 .and n
  | .addSpR8 e => .addSpR8 e
  | .ldAtA16A nn => .ldA16A nn
  | .xorD8 n => .aluD8 .xor n
  | .ldhAAtA8 n => .ldhAA8 n
  | .orD8 n => .aluD8 .or n
  | .ldHlSpR8 e => .ldHlSpR8 e
  | .ldAAtA16 nn => .ldAA16 nn
  | .cpD8 n => .aluD8 .cp n
  | .nop => .nop
  | .ldAtBcA => .ldBcA
  | .incBc => .incRr .bc
  | .incB => .incR .b
  | .decB => .decR .b
  | .rlca => .rlca
  | .addHlBc => .addHlRr .bc
  | .ldAAtBc => .ldABc
  | .decBc => .decRr .bc
  | .incC => .incR .c
  | .decC => .decR .c
  | .rrca => .rrca
  | .ldAtDeA => .ldDeA
  | .incDe => .incRr .de
  | .incD => .incR .d
  | .decD => .decR .d
  | .rla => .rla
  | .addHlDe => .addHlRr .de
  | .ldAAtDe => .ldADe
  | .decDe => .decRr .de
  | .incE => .incR .e
  | .decE => .decR .e
  | .rra => .rra
  | .ldAtHlIncA => .ldHlIncA
  | .incHl => .incRr .hl
  | .incH => .incR .h
  | .decH => .decR .h
  | .daa => .daa
  | .addHlHl => .addHlRr .hl
  | .ldAAtHlInc => .ldAHlInc
  | .decHl => .decRr .hl
  | .incL => .incR .l
  | .decL => .decR .l
  | .cpl => .cpl
  | .ldAtHlDecA => .ldHlDecA
  | .incSp => .incRr .sp
  | .incAtHl => .incHlMem
  | .decAtHl => .decHlMem
  | .scf => .scf
  | .addHlSp => .addHlRr .sp
  | .ldAAtHlDec => .ldAHlDec
  | .decSp => .decRr .sp
  | .incA => .incR .a
  | .decA => .decR .a
  | .ccf => .ccf
  | .ldBB => .ldRR .b .b
  | .ldBC => .ldRR .b .c
  | .ldBD => .ldRR .b .d
  | .ldBE => .ldRR .b .e
  | .ldBH => .ldRR .b .h
  | .ldBL => .ldRR .b .l
  | .ldBAtHl => .ldRHl .b
  | .ldBA => .ldRR .b .a
  | .ldCB => .ldRR .c .b
  | .ldCC => .ldRR .c .c
  | .ldCD => .ldRR .c .d
  | .ldCE => .ldRR .c .e
  | .ldCH => .ldRR .c .h
  | .ldCL => .ldRR .c .l
  | .ldCAtHl => .ldRHl .c
  | .ldCA => .ldRR .c .a
  | .ldDB => .ldRR .d .b
  | .ldDC => .ldRR .d .c
  | .ldDD => .ldRR .d .d
  | .ldDE => .ldRR .d .e
  | .ldDH => .ldRR .d .h
  | .ldDL => .ldRR .d .l
  | .ldDAtHl => .ldRHl .d
  | .ldDA => .ldRR .d .a
  | .ldEB => .ldRR .e .b
  | .ldEC => .ldRR .e .c
  | .ldED => .ldRR .e .d
  | .ldEE => .ldRR .e .e
  | .ldEH => .ldRR .e .h
  | .ldEL => .ldRR .e .l
  | .ldEAtHl => .ldRHl .e
  | .ldEA => .ldRR .e .a
  | .ldHB => .ldRR .h .b
  | .ldHC => .ldRR .h .c
  | .ldHD => .ldRR .h .d
  | .ldHE => .ldRR .h .e
  | .ldHH => .ldRR .h .h
  | .ldHL => .ldRR .h .l
  | .ldHAtHl => .ldRHl .h
  | .ldHA => .ldRR .h .a
  | .ldLB => .ldRR .l .b
  | .ldLC => .ldRR .l .c
  | .ldLD => .ldRR .l .d
  | .ldLE => .ldRR .l .e
  | .ldLH => .ldRR .l .h
  | .ldLL => .ldRR .l .l
  | .ldLAtHl => .ldRHl .l
  | .ldLA => .ldRR .l .a
  | .ldAtHlB => .ldHlR .b
  | .ldAtHlC => .ldHlR .c
  | .ldAtHlD => .ldHlR .d
  | .ldAtHlE => .ldHlR .e
  | .ldAtHlH => .ldHlR .h
  | .ldAtHlL => .ldHlR .l
  | .halt => .halt
  | .ldAtHlA => .ldHlR .a
  | .ldAB => .ldRR .a .b
  | .ldAC => .ldRR .a .c
  | .ldAD => .ldRR .a .d
  | .ldAE => .ldRR .a .e
  | .ldAH => .ldRR .a .h
  | .ldAL => .ldRR .a .l
  | .ldAAtHl => .ldRHl .a
  | .ldAA => .ldRR .a .a
  | .addB => .aluR .add .b
  | .addC => .aluR .add .c
  | .addD => .aluR .add .d
  | .addE => .aluR .add .e
  | .addH => .aluR .add .h
  | .addL => .aluR .add .l
  | .addAtHl => .aluHl .add
  | .addA => .aluR .add .a
  | .adcB => .aluR .adc .b
  | .adcC => .aluR .adc .c
  | .adcD => .aluR .adc .d
  | .adcE => .aluR .adc .e
  | .adcH => .aluR .adc .h
  | .adcL => .aluR .adc .l
  | .adcAtHl => .aluHl .adc
  | .adcA => .aluR .adc .a
  | .subB => .aluR .sub .b
  | .subC => .aluR .sub .c
  | .subD => .aluR .sub .d
  | .subE => .aluR .sub .e
  | .subH => .aluR .sub .h
  | .subL => .aluR .sub .l
  | .subAtHl => .aluHl .sub
  | .subA => .aluR .sub .a
  | .sbcB => .aluR .sbc .b
  | .sbcC => .aluR .sbc .c
  | .sbcD => .aluR .sbc .d
  | .sbcE => .aluR .sbc .e
  | .sbcH => .aluR .sbc .h
  | .sbcL => .aluR .sbc .l
  | .sbcAtHl => .aluHl .sbc
  | .sbcA => .aluR .sbc .a
  | .andB => .aluR .and .b
  | .andC => .aluR .and .c
  | .andD => .aluR .and .d
  | .andE => .aluR .and .e
  | .andH => .aluR .and .h
  | .andL => .aluR .and .l
  | .andAtHl => .aluHl .and
  | .andA => .aluR .and .a
  | .xorB => .aluR .xor .b
  | .xorC => .aluR .xor .c
  | .xorD => .aluR .xor .d
  | .xorE => .aluR .xor .e
  | .xorH => .aluR .xor .h
  | .xorL => .aluR .xor .l
  | .xorAtHl => .aluHl .xor
  | .xorA => .aluR .xor .a
  | .orB => .aluR .or .b
  | .orC => .aluR .or .c
  | .orD => .aluR .or .d
  | .orE => .aluR .or .e
  | .orH => .aluR .or .h
  | .orL => .aluR .or .l
  | .orAtHl => .aluHl .or
  | .orA => .aluR .or .a
  | .cpB => .aluR .cp .b
  | .cpC => .aluR .cp .c
  | .cpD => .aluR .cp .d
  | .cpE => .aluR .cp .e
  | .cpH => .aluR .cp .h
  | .cpL => .aluR .cp .l
  | .cpAtHl => .aluHl .cp
  | .cpA => .aluR .cp .a
  | .retNz => .retCc .nz
  | .popBc => .pop .bc
  | .pushBc => .push .bc
  | .rst00 => .rst 0
  | .retZ => .retCc .z
  | .ret => .ret
  | .rst08 => .rst 1
  | .retNc => .retCc .nc
  | .popDe => .pop .de
  | .illegalD3 => .illegal 0xD3
  | .pushDe => .push .de
  | .rst10 => .rst 2
  | .retC => .retCc .c
  | .reti => .reti
  | .illegalDB => .illegal 0xDB
  | .illegalDD => .illegal 0xDD
  | .rst18 => .rst 3
  | .popHl => .pop .hl
  | .ldAtCA => .ldCMemA
  | .illegalE3 => .illegal 0xE3
  | .illegalE4 => .illegal 0xE4
  | .pushHl => .push .hl
  | .rst20 => .rst 4
  | .jpAtHl => .jpHl
  | .illegalEB => .illegal 0xEB
  | .illegalEC => .illegal 0xEC
  | .illegalED => .illegal 0xED
  | .rst28 => .rst 5
  | .popAf => .pop .af
  | .ldAAtC => .ldACMem
  | .di => .di
  | .illegalF4 => .illegal 0xF4
  | .pushAf => .push .af
  | .rst30 => .rst 6
  | .ldSpHl => .ldSpHl
  | .ei => .ei
  | .illegalFC => .illegal 0xFC
  | .illegalFD => .illegal 0xFD
  | .rst38 => .rst 7
  | .rlcB => .shiftR .rlc .b
  | .rlcC => .shiftR .rlc .c
  | .rlcD => .shiftR .rlc .d
  | .rlcE => .shiftR .rlc .e
  | .rlcH => .shiftR .rlc .h
  | .rlcL => .shiftR .rlc .l
  | .rlcAtHl => .shiftHl .rlc
  | .rlcA => .shiftR .rlc .a
  | .rrcB => .shiftR .rrc .b
  | .rrcC => .shiftR .rrc .c
  | .rrcD => .shiftR .rrc .d
  | .rrcE => .shiftR .rrc .e
  | .rrcH => .shiftR .rrc .h
  | .rrcL => .shiftR .rrc .l
  | .rrcAtHl => .shiftHl .rrc
  | .rrcA => .shiftR .rrc .a
  | .rlB => .shiftR .rl .b
  | .rlC => .shiftR .rl .c
  | .rlD => .shiftR .rl .d
  | .rlE => .shiftR .rl .e
  | .rlH => .shiftR .rl .h
  | .rlL => .shiftR .rl .l
  | .rlAtHl => .shiftHl .rl
  | .rlA => .shiftR .rl .a
  | .rrB => .shiftR .rr .b
  | .rrC => .shiftR .rr .c
  | .rrD => .shiftR .rr .d
  | .rrE => .shiftR .rr .e
  | .rrH => .shiftR .rr .h
  | .rrL => .shiftR .rr .l
  | .rrAtHl => .shiftHl .rr
  | .rrA => .shiftR .rr .a
  | .slaB => .shiftR .sla .b
  | .slaC => .shiftR .sla .c
  | .slaD => .shiftR .sla .d
  | .slaE => .shiftR .sla .e
  | .slaH => .shiftR .sla .h
  | .slaL => .shiftR .sla .l
  | .slaAtHl => .shiftHl .sla
  | .slaA => .shiftR .sla .a
  | .sraB => .shiftR .sra .b
  | .sraC => .shiftR .sra .c
  | .sraD => .shiftR .sra .d
  | .sraE => .shiftR .sra .e
  | .sraH => .shiftR .sra .h
  | .sraL => .shiftR .sra .l
  | .sraAtHl => .shiftHl .sra
  | .sraA => .shiftR .sra .a
  | .swapB => .shiftR .swap .b
  | .swapC => .shiftR .swap .c
  | .swapD => .shiftR .swap .d
  | .swapE => .shiftR .swap .e
  | .swapH => .shiftR .swap .h
  | .swapL => .shiftR .swap .l
  | .swapAtHl => .shiftHl .swap
  | .swapA => .shiftR .swap .a
  | .srlB => .shiftR .srl .b
  | .srlC => .shiftR .srl .c
  | .srlD => .shiftR .srl .d
  | .srlE => .shiftR .srl .e
  | .srlH => .shiftR .srl .h
  | .srlL => .shiftR .srl .l
  | .srlAtHl => .shiftHl .srl
  | .srlA => .shiftR .srl .a
  | .bit0B => .bitR 0 .b
  | .bit0C => .bitR 0 .c
  | .bit0D => .bitR 0 .d
  | .bit0E => .bitR 0 .e
  | .bit0H => .bitR 0 .h
  | .bit0L => .bitR 0 .l
  | .bit0AtHl => .bitHl 0
  | .bit0A => .bitR 0 .a
  | .bit1B => .bitR 1 .b
  | .bit1C => .bitR 1 .c
  | .bit1D => .bitR 1 .d
  | .bit1E => .bitR 1 .e
  | .bit1H => .bitR 1 .h
  | .bit1L => .bitR 1 .l
  | .bit1AtHl => .bitHl 1
  | .bit1A => .bitR 1 .a
  | .bit2B => .bitR 2 .b
  | .bit2C => .bitR 2 .c
  | .bit2D => .bitR 2 .d
  | .bit2E => .bitR 2 .e
  | .bit2H => .bitR 2 .h
  | .bit2L => .bitR 2 .l
  | .bit2AtHl => .bitHl 2
  | .bit2A => .bitR 2 .a
  | .bit3B => .bitR 3 .b
  | .bit3C => .bitR 3 .c
  | .bit3D => .bitR 3 .d
  | .bit3E => .bitR 3 .e
  | .bit3H => .bitR 3 .h
  | .bit3L => .bitR 3 .l
  | .bit3AtHl => .bitHl 3
  | .bit3A => .bitR 3 .a
  | .bit4B => .bitR 4 .b
  | .bit4C => .bitR 4 .c
  | .bit4D => .bitR 4 .d
  | .bit4E => .bitR 4 .e
  | .bit4H => .bitR 4 .h
  | .bit4L => .bitR 4 .l
  | .bit4AtHl => .bitHl 4
  | .bit4A => .bitR 4 .a
  | .bit5B => .bitR 5 .b
  | .bit5C => .bitR 5 .c
  | .bit5D => .bitR 5 .d
  | .bit5E => .bitR 5 .e
  | .bit5H => .bitR 5 .h
  | .bit5L => .bitR 5 .l
  | .bit5AtHl => .bitHl 5
  | .bit5A => .bitR 5 .a
  | .bit6B => .bitR 6 .b
  | .bit6C => .bitR 6 .c
  | .bit6D => .bitR 6 .d
  | .bit6E => .bitR 6 .e
  | .bit6H => .bitR 6 .h
  | .bit6L => .bitR 6 .l
  | .bit6AtHl => .bitHl 6
  | .bit6A => .bitR 6 .a
  | .bit7B => .bitR 7 .b
  | .bit7C => .bitR 7 .c
  | .bit7D => .bitR 7 .d
  | .bit7E => .bitR 7 .e
  | .bit7H => .bitR 7 .h
  | .bit7L => .bitR 7 .l
  | .bit7AtHl => .bitHl 7
  | .bit7A => .bitR 7 .a
  | .res0B => .resR 0 .b
  | .res0C => .resR 0 .c
  | .res0D => .resR 0 .d
  | .res0E => .resR 0 .e
  | .res0H => .resR 0 .h
  | .res0L => .resR 0 .l
  | .res0AtHl => .resHl 0
  | .res0A => .resR 0 .a
  | .res1B => .resR 1 .b
  | .res1C => .resR 1 .c
  | .res1D => .resR 1 .d
  | .res1E => .resR 1 .e
  | .res1H => .resR 1 .h
  | .res1L => .resR 1 .l
  | .res1AtHl => .resHl 1
  | .res1A => .resR 1 .a
  | .res2B => .resR 2 .b
  | .res2C => .resR 2 .c
  | .res2D => .resR 2 .d
  | .res2E => .resR 2 .e
  | .res2H => .resR 2 .h
  | .res2L => .resR 2 .l
  | .res2AtHl => .resHl 2
  | .res2A => .resR 2 .a
  | .res3B => .resR 3 .b
  | .res3C => .resR 3 .c
  | .res3D => .resR 3 .d
  | .res3E => .resR 3 .e
  | .res3H => .resR 3 .h
  | .res3L => .resR 3 .l
  | .res3AtHl => .resHl 3
  | .res3A => .resR 3 .a
  | .res4B => .resR 4 .b
  | .res4C => .resR 4 .c
  | .res4D => .resR 4 .d
  | .res4E => .resR 4 .e
  | .res4H => .resR 4 .h
  | .res4L => .resR 4 .l
  | .res4AtHl => .resHl 4
  | .res4A => .resR 4 .a
  | .res5B => .resR 5 .b
  | .res5C => .resR 5 .c
  | .res5D => .resR 5 .d
  | .res5E => .resR 5 .e
  | .res5H => .resR 5 .h
  | .res5L => .resR 5 .l
  | .res5AtHl => .resHl 5
  | .res5A => .resR 5 .a
  | .res6B => .resR 6 .b
  | .res6C => .resR 6 .c
  | .res6D => .resR 6 .d
  | .res6E => .resR 6 .e
  | .res6H => .resR 6 .h
  | .res6L => .resR 6 .l
  | .res6AtHl => .resHl 6
  | .res6A => .resR 6 .a
  | .res7B => .resR 7 .b
  | .res7C => .resR 7 .c
  | .res7D => .resR 7 .d
  | .res7E => .resR 7 .e
  | .res7H => .resR 7 .h
  | .res7L => .resR 7 .l
  | .res7AtHl => .resHl 7
  | .res7A => .resR 7 .a
  | .set0B => .setR 0 .b
  | .set0C => .setR 0 .c
  | .set0D => .setR 0 .d
  | .set0E => .setR 0 .e
  | .set0H => .setR 0 .h
  | .set0L => .setR 0 .l
  | .set0AtHl => .setHl 0
  | .set0A => .setR 0 .a
  | .set1B => .setR 1 .b
  | .set1C => .setR 1 .c
  | .set1D => .setR 1 .d
  | .set1E => .setR 1 .e
  | .set1H => .setR 1 .h
  | .set1L => .setR 1 .l
  | .set1AtHl => .setHl 1
  | .set1A => .setR 1 .a
  | .set2B => .setR 2 .b
  | .set2C => .setR 2 .c
  | .set2D => .setR 2 .d
  | .set2E => .setR 2 .e
  | .set2H => .setR 2 .h
  | .set2L => .setR 2 .l
  | .set2AtHl => .setHl 2
  | .set2A => .setR 2 .a
  | .set3B => .setR 3 .b
  | .set3C => .setR 3 .c
  | .set3D => .setR 3 .d
  | .set3E => .setR 3 .e
  | .set3H => .setR 3 .h
  | .set3L => .setR 3 .l
  | .set3AtHl => .setHl 3
  | .set3A => .setR 3 .a
  | .set4B => .setR 4 .b
  | .set4C => .setR 4 .c
  | .set4D => .setR 4 .d
  | .set4E => .setR 4 .e
  | .set4H => .setR 4 .h
  | .set4L => .setR 4 .l
  | .set4AtHl => .setHl 4
  | .set4A => .setR 4 .a
  | .set5B => .setR 5 .b
  | .set5C => .setR 5 .c
  | .set5D => .setR 5 .d
  | .set5E => .setR 5 .e
  | .set5H => .setR 5 .h
  | .set5L => .setR 5 .l
  | .set5AtHl => .setHl 5
  | .set5A => .setR 5 .a
  | .set6B => .setR 6 .b
  | .set6C => .setR 6 .c
  | .set6D => .setR 6 .d
  | .set6E => .setR 6 .e
  | .set6H => .setR 6 .h
  | .set6L => .setR 6 .l
  | .set6AtHl => .setHl 6
  | .set6A => .setR 6 .a
  | .set7B => .setR 7 .b
  | .set7C => .setR 7 .c
  | .set7D => .setR 7 .d
  | .set7E => .setR 7 .e
  | .set7H => .setR 7 .h
  | .set7L => .setR 7 .l
  | .set7AtHl => .setHl 7
  | .set7A => .setR 7 .a

end Sys2Proof.Machine
end

