-- ==== Sys2Proof/WellFormed.lean ====
section
/-! DEFINITION. When an instruction is well formed. Every operand but a displacement has exactly the width its
encoding gives it, so its type already says it is in range; a displacement `r8` is an integer and must lie in
-128..127 (spec/30_encoding.md R134). -/

namespace Sys2Proof

/-- `r8` is "a signed displacement -128..+127" (30_encoding R134). -/
def displacementOk (e : Int) : Bool := decide (-128 ≤ e) && decide (e ≤ 127)

/-- The check on a form: the seven displacement forms are checked, every other operand is in range by its type. -/
def Machine.Form.wf : Machine.Form → Bool
  | .ldRR _ _ => true
  | .ldRD8 _ _ => true
  | .ldRHl _ => true
  | .ldHlR _ => true
  | .ldHlD8 _ => true
  | .ldABc => true
  | .ldADe => true
  | .ldBcA => true
  | .ldDeA => true
  | .ldAA16 _ => true
  | .ldA16A _ => true
  | .ldhAA8 _ => true
  | .ldhA8A _ => true
  | .ldACMem => true
  | .ldCMemA => true
  | .ldHlIncA => true
  | .ldHlDecA => true
  | .ldAHlInc => true
  | .ldAHlDec => true
  | .ldRrD16 _ _ => true
  | .ldA16Sp _ => true
  | .ldSpHl => true
  | .ldHlSpR8 e => displacementOk e
  | .push _ => true
  | .pop _ => true
  | .aluR _ _ => true
  | .aluHl _ => true
  | .aluD8 _ _ => true
  | .incR _ => true
  | .incHlMem => true
  | .decR _ => true
  | .decHlMem => true
  | .daa => true
  | .cpl => true
  | .scf => true
  | .ccf => true
  | .addHlRr _ => true
  | .incRr _ => true
  | .decRr _ => true
  | .addSpR8 e => displacementOk e
  | .rlca => true
  | .rrca => true
  | .rla => true
  | .rra => true
  | .shiftR _ _ => true
  | .shiftHl _ => true
  | .bitR _ _ => true
  | .bitHl _ => true
  | .resR _ _ => true
  | .resHl _ => true
  | .setR _ _ => true
  | .setHl _ => true
  | .jp _ => true
  | .jpCc _ _ => true
  | .jpHl => true
  | .jr e => displacementOk e
  | .jrCc _ e => displacementOk e
  | .call _ => true
  | .callCc _ _ => true
  | .ret => true
  | .retCc _ => true
  | .reti => true
  | .rst _ => true
  | .nop => true
  | .halt => true
  | .stop _ => true
  | .di => true
  | .ei => true
  | .illegal _ => true

/-- A well-formed instruction. -/
def Instr.wf (i : Instr) : Bool := (Machine.form i).wf

end Sys2Proof
end

