-- ==== Sys2Proof/Decode.lean ====
section
/-! DEFINITION. The decoder, from the opcode maps of spec/30_encoding.md R139 to R145 (a 256-entry base table and a
256-entry table after 0xCB, R132), total on any bytes and rejecting by name; then the encoder, written from the
encoding formulas of the instruction rules. -/

namespace Sys2Proof

/-- What a base-table byte selects: an instruction without operand bytes, one with a `d8`/`a8`, a `r8` or a
`d16`/`a16` operand (30_encoding R134), STOP with its ignored second byte (R147), the CB prefix (R148), or no
entry (R145). -/
inductive BaseEntry where
  | plain (i : Instr)
  | imm8 (mk : Byte → Instr)
  | rel (mk : Int → Instr)
  | imm16 (mk : Word → Instr)
  | stop
  | cb
  | undefined (i : Instr)

namespace Decode

/-- Base opcodes 0x00 to 0x0F (30_encoding R139 to R142, R145). -/
def baseRow0 : List BaseEntry :=
  [ .plain .nop, .imm16 .ldBcD16, .plain .ldAtBcA, .plain .incBc,
    .plain .incB, .plain .decB, .imm8 .ldBD8, .plain .rlca,
    .imm16 .ldAtA16Sp, .plain .addHlBc, .plain .ldAAtBc, .plain .decBc,
    .plain .incC, .plain .decC, .imm8 .ldCD8, .plain .rrca ]

/-- Base opcodes 0x10 to 0x1F (30_encoding R139 to R142, R145). -/
def baseRow1 : List BaseEntry :=
  [ .stop, .imm16 .ldDeD16, .plain .ldAtDeA, .plain .incDe,
    .plain .incD, .plain .decD, .imm8 .ldDD8, .plain .rla,
    .rel .jrR8, .plain .addHlDe, .plain .ldAAtDe, .plain .decDe,
    .plain .incE, .plain .decE, .imm8 .ldED8, .plain .rra ]

/-- Base opcodes 0x20 to 0x2F (30_encoding R139 to R142, R145). -/
def baseRow2 : List BaseEntry :=
  [ .rel .jrNzR8, .imm16 .ldHlD16, .plain .ldAtHlIncA, .plain .incHl,
    .plain .incH, .plain .decH, .imm8 .ldHD8, .plain .daa,
    .rel .jrZR8, .plain .addHlHl, .plain .ldAAtHlInc, .plain .decHl,
    .plain .incL, .plain .decL, .imm8 .ldLD8, .plain .cpl ]

/-- Base opcodes 0x30 to 0x3F (30_encoding R139 to R142, R145). -/
def baseRow3 : List BaseEntry :=
  [ .rel .jrNcR8, .imm16 .ldSpD16, .plain .ldAtHlDecA, .plain .incSp,
    .plain .incAtHl, .plain .decAtHl, .imm8 .ldAtHlD8, .plain .scf,
    .rel .jrCR8, .plain .addHlSp, .plain .ldAAtHlDec, .plain .decSp,
    .plain .incA, .plain .decA, .imm8 .ldAD8, .plain .ccf ]

/-- Base opcodes 0x40 to 0x4F (30_encoding R139 to R142, R145). -/
def baseRow4 : List BaseEntry :=
  [ .plain .ldBB, .plain .ldBC, .plain .ldBD, .plain .ldBE,
    .plain .ldBH, .plain .ldBL, .plain .ldBAtHl, .plain .ldBA,
    .plain .ldCB, .plain .ldCC, .plain .ldCD, .plain .ldCE,
    .plain .ldCH, .plain .ldCL, .plain .ldCAtHl, .plain .ldCA ]

/-- Base opcodes 0x50 to 0x5F (30_encoding R139 to R142, R145). -/
def baseRow5 : List BaseEntry :=
  [ .plain .ldDB, .plain .ldDC, .plain .ldDD, .plain .ldDE,
    .plain .ldDH, .plain .ldDL, .plain .ldDAtHl, .plain .ldDA,
    .plain .ldEB, .plain .ldEC, .plain .ldED, .plain .ldEE,
    .plain .ldEH, .plain .ldEL, .plain .ldEAtHl, .plain .ldEA ]

/-- Base opcodes 0x60 to 0x6F (30_encoding R139 to R142, R145). -/
def baseRow6 : List BaseEntry :=
  [ .plain .ldHB, .plain .ldHC, .plain .ldHD, .plain .ldHE,
    .plain .ldHH, .plain .ldHL, .plain .ldHAtHl, .plain .ldHA,
    .plain .ldLB, .plain .ldLC, .plain .ldLD, .plain .ldLE,
    .plain .ldLH, .plain .ldLL, .plain .ldLAtHl, .plain .ldLA ]

/-- Base opcodes 0x70 to 0x7F (30_encoding R139 to R142, R145). -/
def baseRow7 : List BaseEntry :=
  [ .plain .ldAtHlB, .plain .ldAtHlC, .plain .ldAtHlD, .plain .ldAtHlE,
    .plain .ldAtHlH, .plain .ldAtHlL, .plain .halt, .plain .ldAtHlA,
    .plain .ldAB, .plain .ldAC, .plain .ldAD, .plain .ldAE,
    .plain .ldAH, .plain .ldAL, .plain .ldAAtHl, .plain .ldAA ]

/-- Base opcodes 0x80 to 0x8F (30_encoding R139 to R142, R145). -/
def baseRow8 : List BaseEntry :=
  [ .plain .addB, .plain .addC, .plain .addD, .plain .addE,
    .plain .addH, .plain .addL, .plain .addAtHl, .plain .addA,
    .plain .adcB, .plain .adcC, .plain .adcD, .plain .adcE,
    .plain .adcH, .plain .adcL, .plain .adcAtHl, .plain .adcA ]

/-- Base opcodes 0x90 to 0x9F (30_encoding R139 to R142, R145). -/
def baseRow9 : List BaseEntry :=
  [ .plain .subB, .plain .subC, .plain .subD, .plain .subE,
    .plain .subH, .plain .subL, .plain .subAtHl, .plain .subA,
    .plain .sbcB, .plain .sbcC, .plain .sbcD, .plain .sbcE,
    .plain .sbcH, .plain .sbcL, .plain .sbcAtHl, .plain .sbcA ]

/-- Base opcodes 0xA0 to 0xAF (30_encoding R139 to R142, R145). -/
def baseRowA : List BaseEntry :=
  [ .plain .andB, .plain .andC, .plain .andD, .plain .andE,
    .plain .andH, .plain .andL, .plain .andAtHl, .plain .andA,
    .plain .xorB, .plain .xorC, .plain .xorD, .plain .xorE,
    .plain .xorH, .plain .xorL, .plain .xorAtHl, .plain .xorA ]

/-- Base opcodes 0xB0 to 0xBF (30_encoding R139 to R142, R145). -/
def baseRowB : List BaseEntry :=
  [ .plain .orB, .plain .orC, .plain .orD, .plain .orE,
    .plain .orH, .plain .orL, .plain .orAtHl, .plain .orA,
    .plain .cpB, .plain .cpC, .plain .cpD, .plain .cpE,
    .plain .cpH, .plain .cpL, .plain .cpAtHl, .plain .cpA ]

/-- Base opcodes 0xC0 to 0xCF (30_encoding R139 to R142, R145). -/
def baseRowC : List BaseEntry :=
  [ .plain .retNz, .plain .popBc, .imm16 .jpNzA16, .imm16 .jpA16,
    .imm16 .callNzA16, .plain .pushBc, .imm8 .addD8, .plain .rst00,
    .plain .retZ, .plain .ret, .imm16 .jpZA16, .cb,
    .imm16 .callZA16, .imm16 .callA16, .imm8 .adcD8, .plain .rst08 ]

/-- Base opcodes 0xD0 to 0xDF (30_encoding R139 to R142, R145). -/
def baseRowD : List BaseEntry :=
  [ .plain .retNc, .plain .popDe, .imm16 .jpNcA16, .undefined .illegalD3,
    .imm16 .callNcA16, .plain .pushDe, .imm8 .subD8, .plain .rst10,
    .plain .retC, .plain .reti, .imm16 .jpCA16, .undefined .illegalDB,
    .imm16 .callCA16, .undefined .illegalDD, .imm8 .sbcD8, .plain .rst18 ]

/-- Base opcodes 0xE0 to 0xEF (30_encoding R139 to R142, R145). -/
def baseRowE : List BaseEntry :=
  [ .imm8 .ldhAtA8A, .plain .popHl, .plain .ldAtCA, .undefined .illegalE3,
    .undefined .illegalE4, .plain .pushHl, .imm8 .andD8, .plain .rst20,
    .rel .addSpR8, .plain .jpAtHl, .imm16 .ldAtA16A, .undefined .illegalEB,
    .undefined .illegalEC, .undefined .illegalED, .imm8 .xorD8, .plain .rst28 ]

/-- Base opcodes 0xF0 to 0xFF (30_encoding R139 to R142, R145). -/
def baseRowF : List BaseEntry :=
  [ .imm8 .ldhAAtA8, .plain .popAf, .plain .ldAAtC, .plain .di,
    .undefined .illegalF4, .plain .pushAf, .imm8 .orD8, .plain .rst30,
    .rel .ldHlSpR8, .plain .ldSpHl, .imm16 .ldAAtA16, .plain .ei,
    .undefined .illegalFC, .undefined .illegalFD, .imm8 .cpD8, .plain .rst38 ]

/-- The base table, by the high then the low nibble of the opcode byte. -/
def baseTable : List (List BaseEntry) :=
  [baseRow0, baseRow1, baseRow2, baseRow3, baseRow4, baseRow5, baseRow6, baseRow7] ++
  [baseRow8, baseRow9, baseRowA, baseRowB, baseRowC, baseRowD, baseRowE, baseRowF]

/-- Second bytes 0x00 to 0x07 after 0xCB (30_encoding R144). -/
def cbRow00 : List Instr :=
  [.rlcB, .rlcC, .rlcD, .rlcE, .rlcH, .rlcL, .rlcAtHl, .rlcA]

/-- Second bytes 0x08 to 0x0F after 0xCB (30_encoding R144). -/
def cbRow08 : List Instr :=
  [.rrcB, .rrcC, .rrcD, .rrcE, .rrcH, .rrcL, .rrcAtHl, .rrcA]

/-- Second bytes 0x10 to 0x17 after 0xCB (30_encoding R144). -/
def cbRow10 : List Instr :=
  [.rlB, .rlC, .rlD, .rlE, .rlH, .rlL, .rlAtHl, .rlA]

/-- Second bytes 0x18 to 0x1F after 0xCB (30_encoding R144). -/
def cbRow18 : List Instr :=
  [.rrB, .rrC, .rrD, .rrE, .rrH, .rrL, .rrAtHl, .rrA]

/-- Second bytes 0x20 to 0x27 after 0xCB (30_encoding R144). -/
def cbRow20 : List Instr :=
  [.slaB, .slaC, .slaD, .slaE, .slaH, .slaL, .slaAtHl, .slaA]

/-- Second bytes 0x28 to 0x2F after 0xCB (30_encoding R144). -/
def cbRow28 : List Instr :=
  [.sraB, .sraC, .sraD, .sraE, .sraH, .sraL, .sraAtHl, .sraA]

/-- Second bytes 0x30 to 0x37 after 0xCB (30_encoding R144). -/
def cbRow30 : List Instr :=
  [.swapB, .swapC, .swapD, .swapE, .swapH, .swapL, .swapAtHl, .swapA]

/-- Second bytes 0x38 to 0x3F after 0xCB (30_encoding R144). -/
def cbRow38 : List Instr :=
  [.srlB, .srlC, .srlD, .srlE, .srlH, .srlL, .srlAtHl, .srlA]

/-- Second bytes 0x40 to 0x47 after 0xCB (30_encoding R144). -/
def cbRow40 : List Instr :=
  [.bit0B, .bit0C, .bit0D, .bit0E, .bit0H, .bit0L, .bit0AtHl, .bit0A]

/-- Second bytes 0x48 to 0x4F after 0xCB (30_encoding R144). -/
def cbRow48 : List Instr :=
  [.bit1B, .bit1C, .bit1D, .bit1E, .bit1H, .bit1L, .bit1AtHl, .bit1A]

/-- Second bytes 0x50 to 0x57 after 0xCB (30_encoding R144). -/
def cbRow50 : List Instr :=
  [.bit2B, .bit2C, .bit2D, .bit2E, .bit2H, .bit2L, .bit2AtHl, .bit2A]

/-- Second bytes 0x58 to 0x5F after 0xCB (30_encoding R144). -/
def cbRow58 : List Instr :=
  [.bit3B, .bit3C, .bit3D, .bit3E, .bit3H, .bit3L, .bit3AtHl, .bit3A]

/-- Second bytes 0x60 to 0x67 after 0xCB (30_encoding R144). -/
def cbRow60 : List Instr :=
  [.bit4B, .bit4C, .bit4D, .bit4E, .bit4H, .bit4L, .bit4AtHl, .bit4A]

/-- Second bytes 0x68 to 0x6F after 0xCB (30_encoding R144). -/
def cbRow68 : List Instr :=
  [.bit5B, .bit5C, .bit5D, .bit5E, .bit5H, .bit5L, .bit5AtHl, .bit5A]

/-- Second bytes 0x70 to 0x77 after 0xCB (30_encoding R144). -/
def cbRow70 : List Instr :=
  [.bit6B, .bit6C, .bit6D, .bit6E, .bit6H, .bit6L, .bit6AtHl, .bit6A]

/-- Second bytes 0x78 to 0x7F after 0xCB (30_encoding R144). -/
def cbRow78 : List Instr :=
  [.bit7B, .bit7C, .bit7D, .bit7E, .bit7H, .bit7L, .bit7AtHl, .bit7A]

/-- Second bytes 0x80 to 0x87 after 0xCB (30_encoding R144). -/
def cbRow80 : List Instr :=
  [.res0B, .res0C, .res0D, .res0E, .res0H, .res0L, .res0AtHl, .res0A]

/-- Second bytes 0x88 to 0x8F after 0xCB (30_encoding R144). -/
def cbRow88 : List Instr :=
  [.res1B, .res1C, .res1D, .res1E, .res1H, .res1L, .res1AtHl, .res1A]

/-- Second bytes 0x90 to 0x97 after 0xCB (30_encoding R144). -/
def cbRow90 : List Instr :=
  [.res2B, .res2C, .res2D, .res2E, .res2H, .res2L, .res2AtHl, .res2A]

/-- Second bytes 0x98 to 0x9F after 0xCB (30_encoding R144). -/
def cbRow98 : List Instr :=
  [.res3B, .res3C, .res3D, .res3E, .res3H, .res3L, .res3AtHl, .res3A]

/-- Second bytes 0xA0 to 0xA7 after 0xCB (30_encoding R144). -/
def cbRowA0 : List Instr :=
  [.res4B, .res4C, .res4D, .res4E, .res4H, .res4L, .res4AtHl, .res4A]

/-- Second bytes 0xA8 to 0xAF after 0xCB (30_encoding R144). -/
def cbRowA8 : List Instr :=
  [.res5B, .res5C, .res5D, .res5E, .res5H, .res5L, .res5AtHl, .res5A]

/-- Second bytes 0xB0 to 0xB7 after 0xCB (30_encoding R144). -/
def cbRowB0 : List Instr :=
  [.res6B, .res6C, .res6D, .res6E, .res6H, .res6L, .res6AtHl, .res6A]

/-- Second bytes 0xB8 to 0xBF after 0xCB (30_encoding R144). -/
def cbRowB8 : List Instr :=
  [.res7B, .res7C, .res7D, .res7E, .res7H, .res7L, .res7AtHl, .res7A]

/-- Second bytes 0xC0 to 0xC7 after 0xCB (30_encoding R144). -/
def cbRowC0 : List Instr :=
  [.set0B, .set0C, .set0D, .set0E, .set0H, .set0L, .set0AtHl, .set0A]

/-- Second bytes 0xC8 to 0xCF after 0xCB (30_encoding R144). -/
def cbRowC8 : List Instr :=
  [.set1B, .set1C, .set1D, .set1E, .set1H, .set1L, .set1AtHl, .set1A]

/-- Second bytes 0xD0 to 0xD7 after 0xCB (30_encoding R144). -/
def cbRowD0 : List Instr :=
  [.set2B, .set2C, .set2D, .set2E, .set2H, .set2L, .set2AtHl, .set2A]

/-- Second bytes 0xD8 to 0xDF after 0xCB (30_encoding R144). -/
def cbRowD8 : List Instr :=
  [.set3B, .set3C, .set3D, .set3E, .set3H, .set3L, .set3AtHl, .set3A]

/-- Second bytes 0xE0 to 0xE7 after 0xCB (30_encoding R144). -/
def cbRowE0 : List Instr :=
  [.set4B, .set4C, .set4D, .set4E, .set4H, .set4L, .set4AtHl, .set4A]

/-- Second bytes 0xE8 to 0xEF after 0xCB (30_encoding R144). -/
def cbRowE8 : List Instr :=
  [.set5B, .set5C, .set5D, .set5E, .set5H, .set5L, .set5AtHl, .set5A]

/-- Second bytes 0xF0 to 0xF7 after 0xCB (30_encoding R144). -/
def cbRowF0 : List Instr :=
  [.set6B, .set6C, .set6D, .set6E, .set6H, .set6L, .set6AtHl, .set6A]

/-- Second bytes 0xF8 to 0xFF after 0xCB (30_encoding R144). -/
def cbRowF8 : List Instr :=
  [.set7B, .set7C, .set7D, .set7E, .set7H, .set7L, .set7AtHl, .set7A]

/-- The table after 0xCB, by bits 7:3 then bits 2:0 of the second byte. -/
def cbTable : List (List Instr) :=
  [cbRow00, cbRow08, cbRow10, cbRow18, cbRow20, cbRow28, cbRow30, cbRow38] ++
  [cbRow40, cbRow48, cbRow50, cbRow58, cbRow60, cbRow68, cbRow70, cbRow78] ++
  [cbRow80, cbRow88, cbRow90, cbRow98, cbRowA0, cbRowA8, cbRowB0, cbRowB8] ++
  [cbRowC0, cbRowC8, cbRowD0, cbRowD8, cbRowE0, cbRowE8, cbRowF0, cbRowF8]

/-- The base-table entry of a byte. -/
def baseEntry (b : Byte) : BaseEntry :=
  Machine.nth .cb (Machine.nth [] baseTable (b.toNat / 16)) (b.toNat % 16)

/-- The CB-table entry of a second byte; every one is defined (30_encoding R144). -/
def cbEntry (b : Byte) : Instr :=
  Machine.nth .nop (Machine.nth [] cbTable (b.toNat / 8)) (b.toNat % 8)

/-- The instruction that three bytes begin with; bytes beyond its length do not matter (30_encoding R133, R134). -/
def decodeBytes (b0 b1 b2 : Byte) : Instr :=
  match baseEntry b0 with
  | .plain i => i
  | .imm8 mk => mk b1
  | .rel mk => mk b1.toInt
  | .imm16 mk => mk (Machine.joinBytes b2 b1)
  | .stop => .stop b1
  | .cb => cbEntry b1
  | .undefined i => i

/-- How many bytes follow the opcode byte (30_encoding R133); an undefined byte is the whole of its row. -/
def tailLength (b0 : Byte) : Nat :=
  match baseEntry b0 with
  | .plain _ => 0
  | .imm8 _ => 1
  | .rel _ => 1
  | .imm16 _ => 2
  | .stop => 1
  | .cb => 1
  | .undefined _ => 0

/-- The declared operand length of an entry (40_cpu_fsm R178): 0 for the entries after 0xCB and for STOP. -/
def operandLength (b0 : Byte) : Nat :=
  match baseEntry b0 with
  | .imm8 _ => 1
  | .rel _ => 1
  | .imm16 _ => 2
  | .plain _ => 0
  | .stop => 0
  | .cb => 0
  | .undefined _ => 0

/-- Whether the byte takes the engine to EXT_OPCODE: 0xCB and 0x10 (40_cpu_fsm R175). -/
def hasSecondOpcode (b0 : Byte) : Bool :=
  match baseEntry b0 with
  | .stop => true
  | .cb => true
  | .plain _ => false
  | .imm8 _ => false
  | .rel _ => false
  | .imm16 _ => false
  | .undefined _ => false

/-- Whether the byte has no table entry (30_encoding R145). -/
def isUndefined (b0 : Byte) : Bool :=
  match baseEntry b0 with
  | .undefined _ => true
  | .plain _ => false
  | .imm8 _ => false
  | .rel _ => false
  | .imm16 _ => false
  | .stop => false
  | .cb => false

end Decode

/-- Why a byte list is rejected. -/
inductive DecodeError where
  /-- there is no byte at all -/
  | noBytes
  /-- the opcode byte needs more bytes than there are (30_encoding R133) -/
  | truncated (opcode : Byte)
  deriving DecidableEq, Repr

/-- Reads one instruction and returns it with the bytes after it. -/
def decode : List Byte → Except DecodeError (Instr × List Byte)
  | [] => .error .noBytes
  | [b0] => if Decode.tailLength b0 = 0 then .ok (Decode.decodeBytes b0 0 0, []) else .error (.truncated b0)
  | [b0, b1] =>
    if Decode.tailLength b0 = 0 then .ok (Decode.decodeBytes b0 0 0, [b1])
    else if Decode.tailLength b0 = 1 then .ok (Decode.decodeBytes b0 b1 0, [])
    else .error (.truncated b0)
  | b0 :: b1 :: b2 :: rest =>
    if Decode.tailLength b0 = 0 then .ok (Decode.decodeBytes b0 0 0, b1 :: b2 :: rest)
    else if Decode.tailLength b0 = 1 then .ok (Decode.decodeBytes b0 b1 0, b2 :: rest)
    else .ok (Decode.decodeBytes b0 b1 b2, rest)

namespace Encode

/-- A one-byte instruction. -/
def op (n : Nat) : List Byte := [BitVec.ofNat 8 n]

/-- An opcode byte and an operand byte (format OP_I8). -/
def opI8 (n : Nat) (b : Byte) : List Byte := [BitVec.ofNat 8 n, b]

/-- An opcode byte and a displacement, two's complement. -/
def opRel (n : Nat) (e : Int) : List Byte := [BitVec.ofNat 8 n, BitVec.ofInt 8 e]

/-- An opcode byte and a 16-bit operand, low byte first (format OP_I16, 30_encoding R138). -/
def opI16 (n : Nat) (nn : Word) : List Byte := [BitVec.ofNat 8 n, Machine.loByte nn, Machine.hiByte nn]

/-- The prefix and the second opcode byte (format CB). -/
def cb (n : Nat) : List Byte := [0xCB, BitVec.ofNat 8 n]

/-- The bytes of a form, from the "Encoding" clause of its rule. -/
def ofForm : Machine.Form → List Byte
  | .nop => op 0x00
  | .halt => op 0x76
  | .stop b => opI8 0x10 b
  | .di => op 0xF3
  | .ei => op 0xFB
  | .illegal b => [b]
  | .ldRR dst src => op (0x40 + 8 * dst.index + src.index)
  | .ldRD8 dst n => opI8 (0x06 + 8 * dst.index) n
  | .ldRHl dst => op (0x46 + 8 * dst.index)
  | .ldHlR src => op (0x70 + src.index)
  | .ldHlD8 n => opI8 0x36 n
  | .ldABc => op 0x0A
  | .ldADe => op 0x1A
  | .ldBcA => op 0x02
  | .ldDeA => op 0x12
  | .ldAA16 nn => opI16 0xFA nn
  | .ldA16A nn => opI16 0xEA nn
  | .ldhAA8 n => opI8 0xF0 n
  | .ldhA8A n => opI8 0xE0 n
  | .ldACMem => op 0xF2
  | .ldCMemA => op 0xE2
  | .ldHlIncA => op 0x22
  | .ldHlDecA => op 0x32
  | .ldAHlInc => op 0x2A
  | .ldAHlDec => op 0x3A
  | .ldRrD16 rr nn => opI16 (0x01 + 16 * rr.index) nn
  | .ldA16Sp nn => opI16 0x08 nn
  | .ldSpHl => op 0xF9
  | .ldHlSpR8 e => opRel 0xF8 e
  | .push rr => op (0xC5 + 16 * rr.index)
  | .pop rr => op (0xC1 + 16 * rr.index)
  | .aluR o src => op (0x80 + 8 * o.index + src.index)
  | .aluHl o => op (0x86 + 8 * o.index)
  | .aluD8 o n => opI8 (0xC6 + 8 * o.index) n
  | .incR r => op (0x04 + 8 * r.index)
  | .incHlMem => op 0x34
  | .decR r => op (0x05 + 8 * r.index)
  | .decHlMem => op 0x35
  | .daa => op 0x27
  | .cpl => op 0x2F
  | .scf => op 0x37
  | .ccf => op 0x3F
  | .addHlRr rr => op (0x09 + 16 * rr.index)
  | .incRr rr => op (0x03 + 16 * rr.index)
  | .decRr rr => op (0x0B + 16 * rr.index)
  | .addSpR8 e => opRel 0xE8 e
  | .rlca => op 0x07
  | .rrca => op 0x0F
  | .rla => op 0x17
  | .rra => op 0x1F
  | .shiftR o r => cb (8 * o.index + r.index)
  | .shiftHl o => cb (8 * o.index + 6)
  | .bitR k r => cb (0x40 + 8 * k.val + r.index)
  | .bitHl k => cb (0x46 + 8 * k.val)
  | .resR k r => cb (0x80 + 8 * k.val + r.index)
  | .resHl k => cb (0x86 + 8 * k.val)
  | .setR k r => cb (0xC0 + 8 * k.val + r.index)
  | .setHl k => cb (0xC6 + 8 * k.val)
  | .jp nn => opI16 0xC3 nn
  | .jpCc cc nn => opI16 (0xC2 + 8 * cc.index) nn
  | .jpHl => op 0xE9
  | .jr e => opRel 0x18 e
  | .jrCc cc e => opRel (0x20 + 8 * cc.index) e
  | .call nn => opI16 0xCD nn
  | .callCc cc nn => opI16 (0xC4 + 8 * cc.index) nn
  | .ret => op 0xC9
  | .retCc cc => op (0xC0 + 8 * cc.index)
  | .reti => op 0xD9
  | .rst y => op (0xC7 + 8 * y.val)

end Encode

/-- The bytes of an instruction, first byte first. -/
def encode (i : Instr) : List Byte := Encode.ofForm (Machine.form i)

/-- The bytes that a table row's number stands for, first byte first. A row of 16 bits is a CB row, numbered
`byte0 << 8 | byte1` with byte0 = 0xCB (30_encoding R153, "match" and "fixed" of the table); any other number has
the first byte in its lowest eight bits (log 7). Bits above `nbits` are 0. -/
def tableWordBytes (nbits w : Nat) : List Byte :=
  let v := w % 2 ^ nbits
  if nbits = 16 ∧ v / 256 = 0xCB then [0xCB, BitVec.ofNat 8 v, 0]
  else [BitVec.ofNat 8 v, BitVec.ofNat 8 (v / 256), BitVec.ofNat 8 (v / 65536)]

/-- What the decoder reads from a table row's number. -/
def decodeTableWord (nbits w : Nat) : Option Instr :=
  match decode (tableWordBytes nbits w) with
  | .ok (i, _) => some i
  | .error _ => none

end Sys2Proof
end

