-- ==== Sys2Proof/Machine/Apu.lean ====
section
/-! DEFINITION. The sound unit: four channel generators, their shared parts, the register map and the mixer
(spec/49_dma_apu.md R480 to R521). Everything here is a function of the unit's own state. -/

namespace Sys2Proof.Machine

/-- The length counter (49_dma_apu R486). -/
structure LengthCounter where
  full : Nat
  length : Nat
  li : Nat
  lengthEnabled : Bool
  deriving DecidableEq, Repr

/-- The volume envelope (49_dma_apu R487). -/
structure Envelope where
  initialVolume : Nat
  /-- direction +1 (true) or -1 (false) -/
  up : Bool
  period : Nat
  volume : Nat
  ei : Nat
  finished : Bool
  deriving DecidableEq, Repr

/-- The frequency sweep of channel 1 (49_dma_apu R488). -/
structure Sweep where
  sPeriod : Nat
  negate : Bool
  shift : Nat
  timer : Int
  shadowFreq : Nat
  nr13 : Byte
  nr14 : Byte
  si : Nat
  overflow : Bool
  counterEnabled : Bool
  negging : Bool
  deriving DecidableEq, Repr

/-- What every channel holds (49_dma_apu R485). -/
structure Channel where
  nr0 : Byte
  nr1 : Byte
  nr2 : Byte
  nr3 : Byte
  nr4 : Byte
  channelEnabled : Bool
  dacEnabled : Bool
  len : LengthCounter
  deriving DecidableEq, Repr

/-- The pulse generator of channels 1 and 2 (49_dma_apu R495, R500). -/
structure Pulse where
  ch : Channel
  env : Envelope
  freqDivider : Int
  lastOutput : Nat
  di : Nat
  deriving DecidableEq, Repr

/-- Channel 3 (49_dma_apu R505). -/
structure Wave where
  ch : Channel
  freqDivider : Int
  lastOutput : Nat
  wi : Nat
  ticksSinceRead : Nat
  /-- `lastReadAddr - 0xFF30` -/
  lastRead : Option Nat
  buffer : Byte
  triggered : Bool
  deriving DecidableEq, Repr

/-- Channel 4 (49_dma_apu R515 to R517). -/
structure Noise where
  ch : Channel
  env : Envelope
  lastResult : Nat
  shiftedDivisor : Nat
  pi : Int
  lfsr : BitVec 15
  deriving DecidableEq, Repr

structure Apu where
  enabled : Bool
  nr50 : Byte
  nr51 : Byte
  ch1 : Pulse
  sweep : Sweep
  ch2 : Pulse
  ch3 : Wave
  ch4 : Noise
  waveRam : List Byte
  sampleTick : Nat
  deriving DecidableEq, Repr

/-- `TICKS_PER_SEC / 256` (49_dma_apu R486). -/
def lenDiv : Nat := 16384

namespace LengthCounter

def start (l : LengthCounter) : LengthCounter := { l with li := 8192 }

def reset (l : LengthCounter) : LengthCounter := { l with lengthEnabled := true, li := 0, length := 0 }

def tick (l : LengthCounter) : LengthCounter :=
  if l.li + 1 = lenDiv then
    { l with li := 0, length := if l.lengthEnabled && decide (l.length > 0) then l.length - 1 else l.length }
  else { l with li := l.li + 1 }

def setLength (l : LengthCounter) (n : Nat) : LengthCounter := { l with length := if n = 0 then l.full else n }

/-- `LengthWriteNr4(v)`. -/
def writeNr4 (l : LengthCounter) (v : Byte) : LengthCounter :=
  let en := bitAt v 6
  let trig := bitAt v 7
  let firstHalf := decide (l.li < lenDiv / 2)
  let m :=
    if l.lengthEnabled then
      if decide (l.length = 0) && trig then l.setLength (if en && firstHalf then l.full - 1 else l.full) else l
    else if en then
      let m1 := if decide (l.length > 0) && firstHalf then { l with length := l.length - 1 } else l
      if decide (m1.length = 0) && trig && firstHalf then m1.setLength (l.full - 1) else m1
    else if decide (l.length = 0) && trig then l.setLength l.full
    else l
  { m with lengthEnabled := en }

end LengthCounter

namespace Envelope

def writeNr2 (e : Envelope) (v : Byte) : Envelope :=
  { e with initialVolume := field v 4 4, up := bitAt v 3, period := field v 0 3 }

def start (e : Envelope) : Envelope := { e with finished := true, ei := 8192 }

def trigger (e : Envelope) : Envelope := { e with volume := e.initialVolume, ei := 0, finished := false }

/-- `EnvTick()`; `TICKS_PER_SEC / 64` is 65536. -/
def tick (e : Envelope) : Envelope :=
  if e.finished then e
  else if (decide (e.volume = 0) && !e.up) || (decide (e.volume = 15) && e.up) then { e with finished := true }
  else if e.ei + 1 = e.period * 65536 then
    { e with ei := 0, volume := if e.up then e.volume + 1 else e.volume - 1 }
  else { e with ei := e.ei + 1 }

def output (e : Envelope) : Nat := if e.period > 0 then e.volume else e.initialVolume

end Envelope

namespace Sweep

/-- `SWEEP_DIV`. -/
def sweepDiv : Nat := 32768

def start (w : Sweep) : Sweep := { w with counterEnabled := false, si := 8192 }

/-- `SweepWriteNr10(v)`, with the negate quirk. -/
def writeNr10 (w : Sweep) (v : Byte) : Sweep :=
  { w with
    sPeriod := field v 4 3, negate := bitAt v 3, shift := field v 0 3
    overflow := if w.negging && !bitAt v 3 then true else w.overflow }

def writeNr13 (w : Sweep) (v : Byte) : Sweep := { w with nr13 := v }

/-- `Calculate()`: the frequency and the state after it. -/
def calculate (w : Sweep) : Nat × Sweep :=
  let d := w.shadowFreq >>> w.shift
  let f := if w.negate then w.shadowFreq - d else w.shadowFreq + d
  (f, { w with negging := if w.negate then true else w.negging
               overflow := if f > 2047 then true else w.overflow })

def period (w : Sweep) : Int := if w.sPeriod = 0 then 8 else (w.sPeriod : Int)

/-- `nr13 | (nr14[2:0] << 8)`. -/
def frequency (w : Sweep) : Nat := w.nr13.toNat + 256 * field w.nr14 0 3

/-- `SweepTrigger()`. -/
def trigger (w : Sweep) : Sweep :=
  let w1 := { w with negging := false, overflow := false, shadowFreq := w.frequency, timer := w.period
                     counterEnabled := decide (w.sPeriod ≠ 0) || decide (w.shift ≠ 0) }
  if w.shift > 0 then w1.calculate.2 else w1

def writeNr14 (w : Sweep) (v : Byte) : Sweep :=
  let w1 := { w with nr14 := v }
  if bitAt v 7 then w1.trigger else w1

/-- The part of `SweepTick()` after the timer has reached 0. -/
def clock (w : Sweep) : Sweep :=
  let w1 := { w with timer := w.period }
  if w.sPeriod = 0 then w1
  else
    let (f, w2) := w1.calculate
    if !w2.overflow && decide (w2.shift ≠ 0) then
      ({ w2 with shadowFreq := f, nr13 := BitVec.ofNat 8 f, nr14 := BitVec.ofNat 8 (f / 256 % 8) } : Sweep).calculate.2
    else w2

/-- `SweepTick()`. -/
def tick (w : Sweep) : Sweep :=
  if w.si + 1 ≠ sweepDiv then { w with si := w.si + 1 }
  else
    let w1 := { w with si := 0 }
    if !w1.counterEnabled then w1
    else
      let w2 := { w1 with timer := w1.timer - 1 }
      if w2.timer = 0 then w2.clock else w2

end Sweep

namespace Channel

/-- `ChannelIsEnabled`. -/
def isEnabled (c : Channel) : Bool := c.channelEnabled && c.dacEnabled

/-- `Frequency()` from the channel's own registers. -/
def frequency (c : Channel) : Nat := 2048 - (c.nr3.toNat + 256 * field c.nr4 0 3)

/-- The common part of `WriteNr4(v)`, without the channel's own `Trigger()` (49_dma_apu R485). -/
def writeNr4 (c : Channel) (v : Byte) : Channel :=
  { c with nr4 := v, len := c.len.writeNr4 v
           channelEnabled := if bitAt v 7 then c.dacEnabled else c.channelEnabled }

/-- `UpdateLength()`; its result is the new `channelEnabled` (49_dma_apu R485). -/
def updateLength (c : Channel) : Channel :=
  let l := c.len.tick
  { c with len := l
           channelEnabled := c.channelEnabled && !(l.lengthEnabled && decide (l.length = 0)) }

/-- The DAC rule of a write to NRx2 (49_dma_apu R487). -/
def writeNr2 (c : Channel) (v : Byte) : Channel :=
  let dac := decide (field v 3 5 ≠ 0)
  { c with nr2 := v, dacEnabled := dac, channelEnabled := c.channelEnabled && dac }

/-- A write to NR11, NR21 or NR41. -/
def writeLength6 (c : Channel) (v : Byte) : Channel :=
  { c with nr1 := v, len := c.len.setLength (64 - field v 0 6) }

/-- The length part of a channel's `Start()`. -/
def start (c : Channel) (cgb : Bool) : Channel :=
  { c with len := (if cgb then c.len.reset else c.len).start }

def disable (c : Channel) : Channel := { c with channelEnabled := false }

end Channel

/-- `Duty(d)[di]` (49_dma_apu R496). -/
def dutyBit (d di : Nat) : Nat :=
  let pattern : Byte := match d with
    | 0 => 0b00000001
    | 1 => 0b10000001
    | 2 => 0b10000111
    | _ => 0b01111110
  bit01 (bitAt pattern di)

namespace Pulse

/-- The part of a pulse tick after the channel's enables are settled; `freq` is `Frequency()` (49_dma_apu R495). -/
def generate (p : Pulse) (freq : Nat) : Pulse × Nat :=
  let q :=
    if p.freqDivider - 1 = 0 then
      { p with freqDivider := (freq * 4 : Nat), lastOutput := dutyBit (field p.ch.nr1 6 2) p.di, di := (p.di + 1) % 8 }
    else { p with freqDivider := p.freqDivider - 1 }
  (q, q.lastOutput * q.env.output)

/-- `Ch2Tick()` (49_dma_apu R500). -/
def tick2 (p : Pulse) : Pulse × Nat :=
  let q := { p with env := p.env.tick, ch := p.ch.updateLength }
  if q.ch.isEnabled then q.generate q.ch.frequency else (q, 0)

/-- `Ch1Tick()` (49_dma_apu R495): the envelope, the length, the sweep and its overflow, then the generator. -/
def tick1 (p : Pulse) (w : Sweep) : Pulse × Sweep × Nat :=
  let w1 := w.tick
  let c := p.ch.updateLength
  let q := { p with env := p.env.tick, ch := { c with channelEnabled := c.channelEnabled && !w1.overflow } }
  if q.ch.isEnabled then
    let (r, out) := q.generate (2048 - w1.frequency)
    (r, w1, out)
  else (q, w1, 0)

/-- `Ch1Trigger()` and `Ch2Trigger()`. -/
def trigger (p : Pulse) : Pulse := { p with di := 0, freqDivider := 1, env := p.env.trigger }

def start (p : Pulse) (cgb : Bool) : Pulse := { p with di := 0, ch := p.ch.start cgb, env := p.env.start }

/-- A write to NR14 or NR24, without the sweep unit's part. -/
def writeNr4 (p : Pulse) (v : Byte) : Pulse :=
  let q := { p with ch := p.ch.writeNr4 v }
  if bitAt v 7 then q.trigger else q

def writeNr2 (p : Pulse) (v : Byte) : Pulse := { p with ch := p.ch.writeNr2 v, env := p.env.writeNr2 v }

end Pulse

namespace Wave

/-- `WaveEntry()` (49_dma_apu R506). -/
def entry (c : Wave) (ram : List Byte) : Wave :=
  let buf := nth 0 ram (c.wi / 2)
  let b := if c.wi % 2 = 0 then field buf 4 4 else field buf 0 4
  let out := match field c.ch.nr2 5 2 with
    | 0 => 0
    | 1 => b
    | 2 => b / 2
    | _ => b / 4
  { c with ticksSinceRead := 0, lastRead := some (c.wi / 2), buffer := buf, lastOutput := out }

/-- `Ch3Tick()` (49_dma_apu R506). -/
def tick (c : Wave) (ram : List Byte) : Wave × Nat :=
  let c1 := { c with ticksSinceRead := c.ticksSinceRead + 1, ch := c.ch.updateLength }
  if c1.ch.channelEnabled && c1.ch.dacEnabled && bitAt c1.ch.nr0 7 then
    let c2 :=
      if c1.freqDivider - 1 = 0 then
        let c3 := { c1 with freqDivider := (c1.ch.frequency * 2 : Nat) }
        let c4 := if c3.triggered then { c3 with lastOutput := field c3.buffer 4 4, triggered := false } else c3.entry ram
        { c4 with wi := (c4.wi + 1) % 32 }
      else { c1 with freqDivider := c1.freqDivider - 1 }
    (c2, c2.lastOutput)
  else (c1, 0)

/-- `Ch3Trigger()`. -/
def trigger (c : Wave) (cgb : Bool) : Wave :=
  { c with wi := 0, triggered := !cgb
           freqDivider := if cgb then ((c.ch.frequency * 2 : Nat) : Int) else 6 }

def start (c : Wave) (cgb : Bool) : Wave := { c with wi := 0, buffer := 0, ch := c.ch.start cgb }

/-- Whether a write to NR34 corrupts wave RAM (49_dma_apu R508). -/
def corrupts (c : Wave) (cgb : Bool) (v : Byte) : Bool :=
  bitAt v 7 && !cgb && c.ch.isEnabled && decide (c.freqDivider = 2)

/-- The corrupted wave RAM (49_dma_apu R508). -/
def corrupted (c : Wave) (ram : List Byte) : List Byte :=
  let pos := c.wi / 2
  if pos < 4 then ram.set 0 (nth 0 ram pos)
  else
    let p := pos / 4 * 4
    [0, 1, 2, 3].foldl (fun r j => r.set j (nth 0 r ((p + j) % 16))) ram

def writeNr4 (c : Wave) (cgb : Bool) (v : Byte) : Wave :=
  let d := { c with ch := c.ch.writeNr4 v }
  if bitAt v 7 then d.trigger cgb else d

/-- Where a CPU access to wave RAM lands: none when it is lost (49_dma_apu R512). -/
def access (c : Wave) (cgb : Bool) (off : Nat) : Option Nat :=
  if c.ch.isEnabled then
    match c.lastRead with
    | some k => if cgb || decide (c.ticksSinceRead < 2) then some k else none
    | none => none
  else some off

end Wave

namespace Noise

/-- `PolyWrite(v)` (49_dma_apu R516). -/
def polyWrite (c : Noise) (v : Byte) : Noise :=
  let divisor := nth 8 [8, 16, 32, 48, 64, 80, 96, 112] (field v 0 3)
  { c with shiftedDivisor := divisor <<< field v 4 4, pi := 1 }

/-- `LfsrNextBit(width7)`: the new register (49_dma_apu R517). -/
def lfsrNext (x : BitVec 15) (width7 : Bool) : BitVec 15 :=
  let b := x.getLsbD 0 != x.getLsbD 1
  let y := (x >>> 1) &&& ~~~(1#15 <<< 14) ||| (if b then 1#15 <<< 14 else 0)
  if width7 then y &&& ~~~(1#15 <<< 6) ||| (if b then 1#15 <<< 6 else 0) else y

/-- `Ch4Tick()` (49_dma_apu R515). -/
def tick (c : Noise) : Noise × Nat :=
  let c1 := { c with env := c.env.tick, ch := c.ch.updateLength }
  if c1.ch.channelEnabled && c1.ch.dacEnabled then
    let c2 :=
      if c1.pi - 1 = 0 then
        let y := lfsrNext c1.lfsr (bitAt c1.ch.nr3 3)
        { c1 with pi := (c1.shiftedDivisor : Int), lfsr := y, lastResult := 1 - bit01 (bitAt y 0) }
      else { c1 with pi := c1.pi - 1 }
    (c2, c2.lastResult * c2.env.output)
  else (c1, 0)

/-- `Ch4Trigger()`. -/
def trigger (c : Noise) : Noise := { c with lfsr := 0x7FFF, env := c.env.trigger }

def start (c : Noise) (cgb : Bool) : Noise := { c with ch := c.ch.start cgb, lfsr := 0x7FFF, env := c.env.start }

def writeNr4 (c : Noise) (v : Byte) : Noise :=
  let d := { c with ch := c.ch.writeNr4 v }
  if bitAt v 7 then d.trigger else d

end Noise

namespace Apu

/-- The register of channel 1 at offset `k` from 0xFF10, and likewise for the other channels below. -/
def writeCh1 (u : Apu) (k : Nat) (v : Byte) : Apu :=
  match k with
  | 0 => { u with ch1 := { u.ch1 with ch := { u.ch1.ch with nr0 := v } }, sweep := u.sweep.writeNr10 v }
  | 1 => { u with ch1 := { u.ch1 with ch := u.ch1.ch.writeLength6 v } }
  | 2 => { u with ch1 := u.ch1.writeNr2 v }
  | 3 => { u with ch1 := { u.ch1 with ch := { u.ch1.ch with nr3 := v } }, sweep := u.sweep.writeNr13 v }
  | _ => { u with ch1 := u.ch1.writeNr4 v, sweep := u.sweep.writeNr14 v }

def writeCh2 (u : Apu) (k : Nat) (v : Byte) : Apu :=
  match k with
  | 0 => { u with ch2 := { u.ch2 with ch := { u.ch2.ch with nr0 := v } } }
  | 1 => { u with ch2 := { u.ch2 with ch := u.ch2.ch.writeLength6 v } }
  | 2 => { u with ch2 := u.ch2.writeNr2 v }
  | 3 => { u with ch2 := { u.ch2 with ch := { u.ch2.ch with nr3 := v } } }
  | _ => { u with ch2 := u.ch2.writeNr4 v }

/-- 49_dma_apu R507, R508. -/
def writeCh3 (u : Apu) (cgb : Bool) (k : Nat) (v : Byte) : Apu :=
  let c := u.ch3.ch
  match k with
  | 0 => { u with ch3 := { u.ch3 with
            ch := { c with nr0 := v, dacEnabled := bitAt v 7, channelEnabled := c.channelEnabled && bitAt v 7 } } }
  | 1 => { u with ch3 := { u.ch3 with ch := { c with nr1 := v, len := c.len.setLength (256 - v.toNat) } } }
  | 2 => { u with ch3 := { u.ch3 with ch := { c with nr2 := v } } }
  | 3 => { u with ch3 := { u.ch3 with ch := { c with nr3 := v } } }
  | _ => { u with
            waveRam := if u.ch3.corrupts cgb v then u.ch3.corrupted u.waveRam else u.waveRam
            ch3 := u.ch3.writeNr4 cgb v }

def writeCh4 (u : Apu) (k : Nat) (v : Byte) : Apu :=
  match k with
  | 0 => { u with ch4 := { u.ch4 with ch := { u.ch4.ch with nr0 := v } } }
  | 1 => { u with ch4 := { u.ch4 with ch := u.ch4.ch.writeLength6 v } }
  | 2 => { u with ch4 := { u.ch4 with ch := u.ch4.ch.writeNr2 v, env := u.ch4.env.writeNr2 v } }
  | 3 => { u with ch4 := ({ u.ch4 with ch := { u.ch4.ch with nr3 := v } } : Noise).polyWrite v }
  | _ => { u with ch4 := u.ch4.writeNr4 v }

/-- A write to a register of 0xFF10..0xFF25 (49_dma_apu R481); any other address changes nothing. -/
def writeRegister (u : Apu) (cgb : Bool) (n : Nat) (v : Byte) : Apu :=
  if n < 0xFF10 then u
  else if n < 0xFF15 then u.writeCh1 (n - 0xFF10) v
  else if n < 0xFF1A then u.writeCh2 (n - 0xFF15) v
  else if n < 0xFF1F then u.writeCh3 cgb (n - 0xFF1A) v
  else if n < 0xFF24 then u.writeCh4 (n - 0xFF1F) v
  else if n = 0xFF24 then { u with nr50 := v }
  else if n = 0xFF25 then { u with nr51 := v }
  else u

/-- Register `k` of a channel as stored. -/
def channelStored (c : Channel) (k : Nat) : Byte :=
  match k with
  | 0 => c.nr0
  | 1 => c.nr1
  | 2 => c.nr2
  | 3 => c.nr3
  | _ => c.nr4

/-- `stored(a)` for 0xFF10..0xFF25 (49_dma_apu R481). -/
def stored (u : Apu) (n : Nat) : Byte :=
  if n < 0xFF15 then channelStored u.ch1.ch (n - 0xFF10)
  else if n < 0xFF1A then channelStored u.ch2.ch (n - 0xFF15)
  else if n < 0xFF1F then channelStored u.ch3.ch (n - 0xFF1A)
  else if n < 0xFF24 then channelStored u.ch4.ch (n - 0xFF1F)
  else if n = 0xFF24 then u.nr50
  else u.nr51

/-- The read masks of 0xFF10..0xFF25 (49_dma_apu R481). -/
def readMask (n : Nat) : Byte :=
  nth 0xFF
    ([0x80, 0x3F, 0x00, 0xFF, 0xBF, 0xFF, 0x3F, 0x00, 0xFF, 0xBF, 0x7F] ++
     [0xFF, 0x9F, 0xFF, 0xBF, 0xFF, 0xFF, 0x00, 0x00, 0xBF, 0x00, 0x00]) (n - 0xFF10)

/-- The value a register is rewritten with at power-on: only the length loads survive (49_dma_apu R484). -/
def powerOnValue (u : Apu) (n : Nat) : Byte :=
  if n = 0xFF11 ∨ n = 0xFF16 ∨ n = 0xFF20 then u.stored n &&& 0x3F
  else if n = 0xFF1B then u.stored n
  else 0

/-- Every channel's `Start()`. -/
def startAll (u : Apu) (cgb : Bool) : Apu :=
  { u with ch1 := u.ch1.start cgb, sweep := u.sweep.start, ch2 := u.ch2.start cgb
           ch3 := u.ch3.start cgb, ch4 := u.ch4.start cgb }

/-- Switching the unit on (49_dma_apu R484). -/
def powerOn (u : Apu) (cgb : Bool) : Apu :=
  ((List.range 22).foldl (fun (w : Apu) i => w.writeRegister cgb (0xFF10 + i) (w.powerOnValue (0xFF10 + i)))
    { u with enabled := true }).startAll cgb

/-- Switching the unit off (49_dma_apu R484). -/
def powerOff (u : Apu) : Apu :=
  { u with enabled := false
           ch1 := { u.ch1 with ch := u.ch1.ch.disable }
           ch2 := { u.ch2 with ch := u.ch2.ch.disable }
           ch3 := { u.ch3 with ch := u.ch3.ch.disable }
           ch4 := { u.ch4 with ch := u.ch4.ch.disable } }

/-- A write to NR52: only bit 7 matters (49_dma_apu R484). -/
def writeNr52 (u : Apu) (cgb : Bool) (v : Byte) : Apu :=
  if bitAt v 7 then (if u.enabled then u else u.powerOn cgb)
  else (if u.enabled then u.powerOff else u)

/-- A write to wave RAM (49_dma_apu R512). -/
def writeWave (u : Apu) (cgb : Bool) (off : Nat) (v : Byte) : Apu :=
  match u.ch3.access cgb off with
  | some k => { u with waveRam := u.waveRam.set k v }
  | none => u

/-- A CPU write to 0xFF10..0xFF26 or 0xFF30..0xFF3F; any other address is not this unit's. -/
def write (u : Apu) (cgb : Bool) (n : Nat) (v : Byte) : Apu :=
  if n = 0xFF26 then u.writeNr52 cgb v
  else if 0xFF30 ≤ n ∧ n < 0xFF40 then u.writeWave cgb (n - 0xFF30) v
  else u.writeRegister cgb n v

/-- A read of NR52 (49_dma_apu R484). -/
def readNr52 (u : Apu) : Byte :=
  maskIf u.enabled 0x80 ||| 0x70 ||| maskIf u.ch1.ch.isEnabled 1 ||| maskIf u.ch2.ch.isEnabled 2 |||
    maskIf u.ch3.ch.isEnabled 4 ||| maskIf u.ch4.ch.isEnabled 8

/-- A read of wave RAM (49_dma_apu R512). -/
def readWave (u : Apu) (cgb : Bool) (off : Nat) : Byte :=
  match u.ch3.access cgb off with
  | some k => nth 0xFF u.waveRam k
  | none => 0xFF

/-- A read of 0xFF10..0xFF26 or 0xFF30..0xFF3F (49_dma_apu R481). -/
def read (u : Apu) (cgb : Bool) (n : Nat) : Byte :=
  if n = 0xFF26 then u.readNr52
  else if 0xFF30 ≤ n ∧ n < 0xFF40 then u.readWave cgb (n - 0xFF30)
  else u.stored n ||| readMask n

/-- The channel outputs routed by bits `lo..lo+3` of NR51, summed (49_dma_apu R483). -/
def mix (nr51 : Byte) (lo o1 o2 o3 o4 : Nat) : Nat :=
  bit01 (bitAt nr51 lo) * o1 + bit01 (bitAt nr51 (lo + 1)) * o2 +
    bit01 (bitAt nr51 (lo + 2)) * o3 + bit01 (bitAt nr51 (lo + 3)) * o4

/-- `SoundTick()`: the unit and the sample pair, if it is powered (49_dma_apu R483). -/
def tick (u : Apu) : Apu × Option (Nat × Nat) :=
  if u.enabled then
    let (c1, w, o1) := u.ch1.tick1 u.sweep
    let (c2, o2) := u.ch2.tick2
    let (c3, o3) := u.ch3.tick u.waveRam
    let (c4, o4) := u.ch4.tick
    ({ u with ch1 := c1, sweep := w, ch2 := c2, ch3 := c3, ch4 := c4 },
     some (mix u.nr51 4 o1 o2 o3 o4 / 4 * field u.nr50 4 3, mix u.nr51 0 o1 o2 o3 o4 / 4 * field u.nr50 0 3))
  else (u, none)

/-! ### Reset (49_dma_apu R482, R505) -/

def coldChannel (full : Nat) : Channel :=
  { nr0 := 0, nr1 := 0, nr2 := 0, nr3 := 0, nr4 := 0, channelEnabled := false, dacEnabled := false
    len := { full := full, length := 0, li := 0, lengthEnabled := false } }

def coldEnvelope : Envelope :=
  { initialVolume := 0, up := false, period := 0, volume := 0, ei := 0, finished := true }

def coldPulse : Pulse := { ch := coldChannel 64, env := coldEnvelope, freqDivider := 0, lastOutput := 0, di := 0 }

def coldSweep : Sweep :=
  { sPeriod := 0, negate := false, shift := 0, timer := 0, shadowFreq := 0, nr13 := 0, nr14 := 0, si := 0
    overflow := false, counterEnabled := false, negging := false }

/-- The wave RAM pattern of each variant (49_dma_apu R505). -/
def waveRamAtReset (cgb : Bool) : List Byte :=
  if cgb then [0x00, 0xFF, 0x00, 0xFF, 0x00, 0xFF, 0x00, 0xFF, 0x00, 0xFF, 0x00, 0xFF, 0x00, 0xFF, 0x00, 0xFF]
  else [0x84, 0x40, 0x43, 0xAA, 0x2D, 0x78, 0x92, 0x3C, 0x60, 0x59, 0x59, 0xB0, 0x34, 0xB8, 0x2E, 0xDA]

/-- The unit with a boot ROM: off, registers 0, counters as after the `Start` procedures (49_dma_apu R482). The spec gives
no reset value for channel 4's `lastResult`, nor for the generators' `freqDivider` and `lastOutput`, channel 3's
`triggered` and the sample position: 0 or false, the model's choice (logs 17, 21). -/
def cold (cgb : Bool) : Apu :=
  startAll
    { enabled := false, nr50 := 0, nr51 := 0, ch1 := coldPulse, sweep := coldSweep, ch2 := coldPulse
      ch3 := { ch := coldChannel 256, freqDivider := 0, lastOutput := 0, wi := 0, ticksSinceRead := 65536
               lastRead := none, buffer := 0, triggered := false }
      ch4 := { ch := coldChannel 64, env := coldEnvelope, lastResult := 0, shiftedDivisor := 0, pi := 0, lfsr := 0x7FFF }
      waveRam := waveRamAtReset cgb, sampleTick := 0 } cgb

/-- The register writes that lead to the post-boot state, in order (49_dma_apu R482). -/
def postBootWrites : List (Nat × Byte) :=
  [(0xFF26, 0x80), (0xFF10, 0x80), (0xFF11, 0xBF), (0xFF12, 0xF3), (0xFF13, 0xFF), (0xFF14, 0xBF), (0xFF16, 0x3F)] ++
  [(0xFF17, 0x00), (0xFF18, 0xFF), (0xFF19, 0xBF), (0xFF1A, 0x7F), (0xFF1B, 0xFF), (0xFF1C, 0x9F), (0xFF1D, 0xFF)] ++
  [(0xFF1E, 0xBF), (0xFF20, 0xFF), (0xFF21, 0x00), (0xFF22, 0x00), (0xFF23, 0xBF), (0xFF24, 0x77), (0xFF25, 0xF3)]

/-- The unit at reset (49_dma_apu R482). -/
def reset (cgb useBootRom : Bool) : Apu :=
  if useBootRom then cold cgb else postBootWrites.foldl (fun u w => u.write cgb w.1 w.2) (cold cgb)

end Apu

end Sys2Proof.Machine
end

