-- ==== Sys2Proof/Config.lean ====
section
/-! DEFINITION. The configuration record of spec/00_scope.md R7 and the free values of the model.
The record is plain data carried, unchanged, by every state (assumption log 1): statements over all states hold
for both hardware variants and for every parameter. A free value is an opaque constant: no proof can see what it is. -/

namespace Sys2Proof

/-- What answers `Transfer` on the serial port (00_scope R15, 60_exceptions R557, decision D31; log 10). -/
inductive SerialPeer where
  /-- no peer: the endpoint returns 0xFF -/
  | absent
  /-- the endpoint fails: received 0x00 -/
  | failing
  /-- a peer whose reply nothing constrains -/
  | external
  deriving DecidableEq, Repr

/-- The cartridge region (00_scope R7, 20_memory R96; log 4). -/
inductive Cartridge where
  /-- the flat 32 KiB ROM without RAM of the spec's test programs: its bytes are storage cells -/
  | flatRom
  /-- any other cartridge, under a number of its own: what it reads and how a write changes its state is open -/
  | external (kind : Nat)
  deriving DecidableEq, Repr

/-- The force flags, force-dmg and force-cgb, which exclude each other (00_scope R8). -/
inductive ForcedVariant where
  | dmg | cgb
  deriving DecidableEq, Repr

/-- The causes of the OAM bug (40_cpu_fsm R196). -/
inductive OamCause where
  | push1 | push2 | pop1 | pop2 | incDec | ldHl
  deriving DecidableEq, Repr

/-- The parameters of 00_scope R7, with the defaults of the table there. -/
structure Config where
  /-- CGB (true) or DMG (false) -/
  cgb : Bool
  useBootRom : Bool := false
  /-- the bytes of the boot ROM, from address 0 on; a byte beyond the list is a free value (log 5) -/
  bootRom : List Byte := []
  cartridge : Cartridge := .flatRom
  /-- `initRam`: what work RAM, HRAM, VRAM and OAM hold at reset, by storage key, and, below 0x8000, the bytes of the
  flat ROM; a key that is not listed holds 0x00 (logs 3, 6) -/
  initRam : List (Nat × Byte) := []
  /-- `initRam` of the two CGB palette memories; a byte beyond the list is 0x00 (log 3) -/
  initBgPalette : List Byte := []
  initObjPalette : List Byte := []
  diDelay : Bool := true
  haltWakeExtraTick : Bool := false
  ppuBlocksCpu : Bool := false
  dmaTicks : Nat := 648
  dmaBlockAfter : Nat := 5
  hdmaBlockTicks : Nat := 0x20
  lcdOnDelay : Nat := 244
  lcdOffHblankStart : Nat := 250
  /-- `SAMPLE_DIVIDER`, left open by 49_dma_apu R520 (190 is the value suggested there; log 17) -/
  sampleDivider : Nat := 190
  serialPeer : SerialPeer := .absent
  deriving DecidableEq, Repr

namespace Config

/-- The variant `State.reset` takes: DMG, post-boot, as the programs of spec/95_test_vectors.md section 3.
`cgb` "must be given" (00_scope R7): DESIGN CHOICE, log 1. -/
def initial : Config := { cgb := false }

/-- `oamCorruption` (00_scope R7, 40_cpu_fsm R195, decision D30): the new byte at an OAM index, from the cause,
`ticksInLine` and the 160 old bytes. A free value, log 9. -/
opaque oamCorruption : OamCause → Nat → List Byte → Nat → Byte

/-- A byte of a boot ROM whose bytes were not given. A free value, log 5. -/
opaque bootRomMissing : Nat → Byte

/-- The state an external cartridge starts in, by its kind. A free value, log 4. -/
opaque cartridgeStart : Nat → Nat

/-- `read` of an external cartridge: its kind, its state, the address (20_memory R96). A free value, log 4. -/
opaque cartridgeRead : Nat → Nat → Nat → Byte

/-- `write` of an external cartridge: its kind, its state, the address, the byte, and its state after (20_memory R96).
A free value, log 4. -/
opaque cartridgeWrite : Nat → Nat → Nat → Byte → Nat

/-- The reply of an external serial peer to the byte sent, at a master tick. A free value, log 10. -/
opaque serialReply : Nat → Byte → Byte

/-- What a tile-data fetch at an address outside VRAM reads, at a master tick. A free value, log 12. -/
opaque vramOutside : Nat → Int → Byte

/-- The colour of the pixel taken from an empty FIFO, at a master tick (DMG: the shade; CGB: the 15-bit colour).
A free value, log 13. -/
opaque emptyFifoPixel : Nat → BitVec 15

end Config

end Sys2Proof
end

