-- ==== Sys2Proof/Machine/Mem.lean ====
section
/-! DEFINITION. Storage: a list of (key, byte) cells in one canonical form. A key is the address of the cell in the
bank that the address shows by default; the cells of other banks have keys above 0xFFFF (the map is in Machine/Mmu.lean).
An unlisted cell reads 0x00 (assumption log 3). -/

namespace Sys2Proof.Machine

/-- What a cell that is not listed holds: memory that `initRam` says nothing of, and the flat ROM before a program is
loaded (70_reset R616, decision D23; DESIGN CHOICE, log 3). -/
def unlisted : Byte := 0x00

namespace Mem

/-- The byte at a key. -/
def read : List Host.Cell → Nat → Byte
  | [], _ => unlisted
  | (k, v) :: rest, a => if a = k then v else read rest a

/-- Stores a byte, keeping the list sorted and without entries that read as unlisted cells do. -/
def write : List Host.Cell → Nat → Byte → List Host.Cell
  | [], a, v => if v = unlisted then [] else [(a, v)]
  | (k, w) :: rest, a, v =>
    if a < k then (if v = unlisted then (k, w) :: rest else (a, v) :: (k, w) :: rest)
    else if a = k then (if v = unlisted then rest else (a, v) :: rest)
    else (k, w) :: write rest a v

/-- The canonical form: keys strictly rising from `low` on, no entry equal to an unlisted cell. -/
def wfFrom : Nat → List Host.Cell → Bool
  | _, [] => true
  | low, (k, v) :: rest => decide (low ≤ k) && decide (v ≠ unlisted) && wfFrom (k + 1) rest

/-- `Memory.wf`: the canonical form. -/
def wf (m : List Host.Cell) : Bool := wfFrom 0 m

/-- Stores the bytes of a list at consecutive keys. -/
def writeAll : List Host.Cell → Nat → List Byte → List Host.Cell
  | m, _, [] => m
  | m, a, v :: vs => writeAll (write m a v) (a + 1) vs

/-- The `n` bytes from a key on. -/
def readAll (m : List Host.Cell) (a n : Nat) : List Byte := (List.range n).map (fun i => read m (a + i))

end Mem

end Sys2Proof.Machine
end

