-- ==== Sys2Proof/Machine/Cartridge.lean ====
section
/-! DEFINITION. What the construction parameters give the machine: the cartridge region, the boot ROM bytes, the memory
contents at reset, and the hardware variant (spec/00_scope.md R7, R8; spec/20_memory.md R87, R96, R97). -/

namespace Sys2Proof

namespace Config

/-! ### The cartridge region (20_memory R96) -/

/-- `accepts`: the addresses of the cartridge region. 0xFF50 is the switch of the boot ROM overlay inside it. -/
def cartridgeAccepts (a : Word) : Bool :=
  decide (a.toNat < 0x8000) || (decide (0xA000 ≤ a.toNat) && decide (a.toNat < 0xC000)) || decide (a = 0xFF50)

/-- `read`, total on the region: the cartridge's state and storage give the byte. -/
def cartRead (c : Config) (cart : Nat) (mem : List Host.Cell) (n : Nat) : Byte :=
  match c.cartridge with
  | .flatRom => if n < 0x8000 then Machine.Mem.read mem n else 0xFF
  | .external kind => Config.cartridgeRead kind cart n

/-- `write`: the cartridge's own state after it. The flat ROM ignores writes. -/
def cartWrite (c : Config) (cart : Nat) (n : Nat) (v : Byte) : Nat :=
  match c.cartridge with
  | .flatRom => cart
  | .external kind => Config.cartridgeWrite kind cart n v

/-- The cartridge's own state at reset. -/
def cartStart (c : Config) : Nat :=
  match c.cartridge with
  | .flatRom => 0
  | .external kind => Config.cartridgeStart kind

/-! ### Memory contents at reset -/

/-- `bootRom[addr]` (20_memory R87). -/
def bootByte (c : Config) (n : Nat) : Byte := Machine.nth (Config.bootRomMissing n) c.bootRom n

/-- `initRam` as storage in its canonical form (70_reset R616). -/
def initMem (c : Config) : List Host.Cell := c.initRam.foldl (fun m w => Machine.Mem.write m w.1 w.2) []

/-- The 64 bytes of a palette memory at reset, from the bytes given. -/
def initPalette (given : List Byte) : List Byte := (List.range 64).map (Machine.nth Machine.unlisted given)

/-! ### The hardware variant (00_scope R8) -/

/-- `cgb` from the header's CGB flag and the force flag: 0x80 universal and 0xC0 CGB-only give CGB, anything else DMG,
unless forced (00_scope R8, decision D4). -/
def decideCgb (header : Byte) (force : Option ForcedVariant) : Bool :=
  match force with
  | some .dmg => false
  | some .cgb => true
  | none => decide (header = 0x80) || decide (header = 0xC0)

/-- The header's CGB flag: byte 0x143 of the cartridge as it is at reset (00_scope R8, 20_memory R97). -/
def headerFlag (c : Config) : Byte := c.cartRead c.cartStart c.initMem 0x143

/-- The record with `cgb` decided, as the construction of the machine decides it. -/
def construct (c : Config) (force : Option ForcedVariant) : Config := { c with cgb := decideCgb c.headerFlag force }

end Config

end Sys2Proof
end

