-- ==== Sys2Proof/Machine/HostCall.lean ====
section
/-! DEFINITION. What the core sends the host (spec/00_scope.md R15, spec/48_ppu.md R449): an output trace that
nothing in the core reads (assumption log 17). -/

namespace Sys2Proof.Machine

inductive HostCall where
  | putDmgPixel (colourIndex : BitVec 2)
  | putColorPixel (colour : BitVec 15)
  | requestRefresh
  | waitForRefresh
  | enableLcd
  | disableLcd
  | soundStart
  | soundStop
  | play (left right : Byte)
  /-- `Transfer(outgoingByte)`; the reply is the peer's (60_exceptions R557) -/
  | transfer (outgoingByte : Byte)
  deriving DecidableEq, Repr

end Sys2Proof.Machine
end

