-- ==== Sys2Proof/Machine/Ppu.lean ====
section
/-! DEFINITION. The PPU: mode machine, OAM search, fetcher, pixel FIFO, registers and palette ports (spec/48_ppu.md
R400 to R449, spec/10_state.md R43 to R46). Everything here is a function of the unit's own state and of what it
observes (`PpuEnv`). -/

namespace Sys2Proof.Machine

/-- `mode` (10_state R46). -/
inductive Mode where
  | hblank | vblank | oamSearch | pixelTransfer
  deriving DecidableEq, Repr

/-- The mode numbers of STAT (48_ppu R403). -/
def Mode.number : Mode → Nat
  | .hblank => 0 | .vblank => 1 | .oamSearch => 2 | .pixelTransfer => 3

/-- A sprite selected by the OAM search (48_ppu R410). -/
structure Sprite where
  x : Byte
  y : Byte
  addr : Nat
  deriving DecidableEq, Repr

/-- The sub-state of the OAM search. -/
inductive SearchSub where
  | readingY | readingX
  deriving DecidableEq, Repr

/-- The OAM search (48_ppu R410). -/
structure Search where
  i : Nat
  sub : SearchSub
  spriteY : Byte
  spriteX : Byte
  selected : List Sprite
  deriving DecidableEq, Repr

/-- The fetcher's states (48_ppu R420). -/
inductive FetchState where
  | readTileId | readData1 | readData2 | push
  | readSpriteTileId | readSpriteFlags | readSpriteData1 | readSpriteData2 | pushSprite
  deriving DecidableEq, Repr

/-- The fetcher's internal divider, 1 or 2. -/
inductive Divider where
  | one | two
  deriving DecidableEq, Repr

/-- The fetcher (48_ppu R420). -/
structure Fetcher where
  fstate : FetchState
  divider : Divider
  fetchingDisabled : Bool
  mapAddress : Word
  tileDataAddress : Word
  tileIdSigned : Bool
  xOffset : BitVec 5
  tileLine : BitVec 3
  tileId : Byte
  tileData1 : Byte
  tileData2 : Byte
  tileAttr : Byte
  sprite : Sprite
  spriteTileLine : Int
  spriteOffset : Nat
  spriteIndex : Nat
  spriteAttr : Byte
  deriving DecidableEq, Repr

/-- The source of a DMG pixel (48_ppu R430). -/
inductive PixelSource where
  | bg | obj0 | obj1
  deriving DecidableEq, Repr

/-- `prio` of a CGB pixel: a background tag or a sprite index (48_ppu R430). -/
inductive Priority where
  | bgNormal
  | bgPriority
  | sprite (index : Nat)
  deriving DecidableEq, Repr

/-- What a slot holds besides its colour index, in each variant (48_ppu R430). -/
inductive PixelTag where
  | dmg (src : PixelSource)
  | cgb (palette : BitVec 3) (prio : Priority)
  deriving DecidableEq, Repr

/-- A slot of the pixel FIFO. -/
structure Slot where
  colour : BitVec 2
  tag : PixelTag
  deriving DecidableEq, Repr

/-- One CGB palette memory with its index register (48_ppu R447). -/
structure PalettePort where
  palIndex : BitVec 6
  autoInc : Bool
  bytes : List Byte
  deriving DecidableEq, Repr

structure Ppu where
  lcdc : Byte
  /-- STAT bits 6:3 -/
  statEn : BitVec 4
  scy : Byte
  scx : Byte
  ly : Byte
  lyc : Byte
  bgp : Byte
  obp0 : Byte
  obp1 : Byte
  wy : Byte
  wx : Byte
  vbk : BitVec 1
  bgPal : PalettePort
  objPal : PalettePort
  mode : Mode
  ticksInLine : Nat
  hblankTicks : Nat
  vblankTicks : Nat
  lcdEnabled : Bool
  lcdEnabledDelay : Int
  search : Search
  x : Nat
  droppedPixels : Nat
  window : Bool
  /-- the line's sprites, each with its "used" mark -/
  sprites : List (Sprite × Bool)
  fetcher : Fetcher
  fifo : List Slot
  deriving DecidableEq, Repr

/-- What the PPU reads of the rest of the core in one tick. -/
structure PpuEnv where
  cgb : Bool
  oamBlocked : Bool
  mem : List Host.Cell
  masterTicks : Nat

namespace PpuEnv

/-- `PpuOamRead(a)` (48_ppu R413). -/
def oamRead (e : PpuEnv) (a : Nat) : Byte := if e.oamBlocked then 0xFF else Mem.read e.mem a

/-- A byte of a VRAM bank; an address outside VRAM reads as a free value (log 12). -/
def vram (e : PpuEnv) (bank : Nat) (a : Int) : Byte :=
  if 0x8000 ≤ a ∧ a < 0xA000 then Mem.read e.mem (bank * 0x10000 + a.toNat) else Config.vramOutside e.masterTicks a

/-- `GetTileData(id, line, byteNo, base, signed, attr, height)` (48_ppu R422). -/
def tileData (e : PpuEnv) (id : Byte) (line : Int) (byteNo : Nat) (base : Word) (signed : Bool) (attr : Byte)
    (height : Nat) : Byte :=
  let effLine : Int := if bitAt attr 6 then (height : Int) - 1 - line else line
  let tileAddr : Int := (base.toNat : Int) + (if signed then id.toInt else (id.toNat : Int)) * 0x10
  e.vram (if e.cgb && bitAt attr 3 then 1 else 0) (tileAddr + effLine * 2 + byteNo)

end PpuEnv

/-- `Zip(data1, data2, reverse)`: the eight colour indices of a tile line (48_ppu R423). -/
def zipLine (data1 data2 : Byte) (reverse : Bool) : List (BitVec 2) :=
  let line := [7, 6, 5, 4, 3, 2, 1, 0].map
    (fun i => BitVec.ofNat 2 (2 * bit01 (bitAt data2 i) + bit01 (bitAt data1 i)))
  if reverse then line.reverse else line

namespace PalettePort

/-- A read of the index port (48_ppu R447). -/
def readIndex (p : PalettePort) : Byte := p.palIndex.setWidth 8 ||| maskIf p.autoInc 0x80 ||| 0x40

def writeIndex (p : PalettePort) (v : Byte) : PalettePort :=
  { p with palIndex := v.setWidth 6, autoInc := bitAt v 7 }

def readData (p : PalettePort) : Byte := nth 0 p.bytes p.palIndex.toNat

def writeData (p : PalettePort) (v : Byte) : PalettePort :=
  { p with bytes := p.bytes.set p.palIndex.toNat v
           palIndex := if p.autoInc then p.palIndex + 1 else p.palIndex }

/-- Colour `c` of palette `n`: two bytes, low byte first (48_ppu R447). -/
def colour (p : PalettePort) (n : BitVec 3) (c : BitVec 2) : Word :=
  joinBytes (nth 0 p.bytes (8 * n.toNat + 2 * c.toNat + 1)) (nth 0 p.bytes (8 * n.toNat + 2 * c.toNat))

/-- A port at reset, with the bytes the construction gives its memory (48_ppu R447, 70_reset R616). -/
def reset (given : List Byte) : PalettePort := { palIndex := 0, autoInc := false, bytes := Config.initPalette given }

end PalettePort

namespace Slot

/-- The slots of eight background indices in each variant (48_ppu R431). -/
def ofLine (cgb : Bool) (line : List (BitVec 2)) (attr : Byte) : List Slot :=
  line.map (fun c =>
    { colour := c
      tag := if cgb then .cgb (attr.extractLsb' 0 3) (if bitAt attr 7 then .bgPriority else .bgNormal) else .dmg .bg })

/-- One sprite pixel `p` over one slot: the DMG rule (48_ppu R432) or the CGB rule (R433) by the slot's kind. -/
def overlay (masterPriority : Bool) (attr : Byte) (index : Nat) (p : BitVec 2) (s : Slot) : Slot :=
  if p = 0 then s
  else
    match s.tag with
    | .dmg src =>
      if src ≠ .bg then s
      else if bitAt attr 7 && decide (s.colour ≠ 0) then s
      else { colour := p, tag := .dmg (if bitAt attr 4 then .obj1 else .obj0) }
    | .cgb _ old =>
      let put := match old with
        | .bgPriority => !masterPriority || decide (s.colour = 0)
        | .bgNormal => !masterPriority || !bitAt attr 7 || decide (s.colour = 0)
        | .sprite k => decide (k > index)
      if put then { colour := p, tag := .cgb (attr.extractLsb' 0 3) (.sprite index) } else s

end Slot

/-- `FifoSetOverlay(line, offset, attr, index)`: pixels `offset..7` of the line over the slots from the head on
(48_ppu R432, R433). -/
def overlayFifo (masterPriority : Bool) (attr : Byte) (index : Nat) : List (BitVec 2) → List Slot → List Slot
  | p :: ps, s :: ss => Slot.overlay masterPriority attr index p s :: overlayFifo masterPriority attr index ps ss
  | _, ss => ss

namespace Fetcher

/-- `FetcherInit()` (48_ppu R420). -/
def init (f : Fetcher) : Fetcher :=
  { f with fstate := .readTileId, tileId := 0, tileData1 := 0, tileData2 := 0, divider := .two, fetchingDisabled := false }

/-- `StartFetching`, without `FifoClear()` (48_ppu R420). -/
def start (f : Fetcher) (map data : Word) (signed : Bool) (xOffset : BitVec 5) (tileLine : BitVec 3) : Fetcher :=
  { f with mapAddress := map, tileDataAddress := data, tileIdSigned := signed, xOffset := xOffset, tileLine := tileLine
           fstate := .readTileId, tileId := 0, tileData1 := 0, tileData2 := 0, divider := .two }

/-- `SpriteInProgress()` (48_ppu R420). -/
def spriteInProgress (f : Fetcher) : Bool :=
  match f.fstate with
  | .readSpriteTileId => true
  | .readSpriteFlags => true
  | .readSpriteData1 => true
  | .readSpriteData2 => true
  | .pushSprite => true
  | .readTileId => false
  | .readData1 => false
  | .readData2 => false
  | .push => false

end Fetcher

namespace Ppu

/-- `SpriteHeight()` (48_ppu R410). -/
def spriteHeight (p : Ppu) : Nat := if bitAt p.lcdc 2 then 16 else 8

/-! ### OAM search (48_ppu R410) -/

def startOamSearch (p : Ppu) : Ppu := { p with search := { p.search with i := 0, sub := .readingY, selected := [] } }

/-- Whether a sprite lies on the line: unsigned comparisons without wrap (48_ppu R411). -/
def onLine (p : Ppu) (spriteY : Byte) : Bool :=
  decide (spriteY.toNat ≤ p.ly.toNat + 16) && decide (p.ly.toNat + 16 < spriteY.toNat + p.spriteHeight)

/-- One `PhaseTick` of OamSearch and whether the phase goes on. -/
def searchTick (e : PpuEnv) (p : Ppu) : Ppu × Bool :=
  let r := p.search
  let a := 0xFE00 + 4 * r.i
  match r.sub with
  | .readingY => ({ p with search := { r with spriteY := e.oamRead a, sub := .readingX } }, decide (r.i < 40))
  | .readingX =>
    let sx := e.oamRead (a + 1)
    let sel := if decide (r.selected.length < 10) && p.onLine r.spriteY then
        r.selected ++ [{ x := sx, y := r.spriteY, addr := a }] else r.selected
    ({ p with search := { r with spriteX := sx, selected := sel, i := r.i + 1, sub := .readingY } }, decide (r.i + 1 < 40))

/-! ### Starting a line's fetches (48_ppu R415) -/

/-- A tile map's base and the row of eight lines in it. -/
def mapRow (high : Bool) (y : Nat) : Word := BitVec.ofNat 16 ((if high then 0x9C00 else 0x9800) + y / 8 * 0x20)

/-- The tile data base of LCDC[4]. -/
def dataBase (p : Ppu) : Word := if bitAt p.lcdc 4 then 0x8000 else 0x9000

def startFetchingBackground (p : Ppu) : Ppu :=
  let bgY := (p.scy.toNat + p.ly.toNat) % 256
  { p with fifo := []
           fetcher := p.fetcher.start (mapRow (bitAt p.lcdc 3) bgY) p.dataBase (!bitAt p.lcdc 4)
             (BitVec.ofNat 5 (p.scx.toNat / 8)) (BitVec.ofNat 3 (bgY % 8)) }

def startFetchingWindow (p : Ppu) : Ppu :=
  let winX := (p.x + 7 - p.wx.toNat) / 8
  let winY := p.ly.toNat - p.wy.toNat
  { p with fifo := []
           fetcher := p.fetcher.start (mapRow (bitAt p.lcdc 6) winY) p.dataBase (!bitAt p.lcdc 4)
             (BitVec.ofNat 5 winX) (BitVec.ofNat 3 (winY % 8)) }

/-- `StartPixelTransfer(selected)`. -/
def startPixelTransfer (cgb : Bool) (p : Ppu) : Ppu :=
  let q := { p with sprites := p.search.selected.map (fun s => (s, false)), droppedPixels := 0, x := 0, window := false
                    fetcher := p.fetcher.init }
  if cgb || bitAt q.lcdc 0 then q.startFetchingBackground
  else { q with fetcher := { q.fetcher with fetchingDisabled := true } }

/-! ### The fetcher (48_ppu R421) -/

/-- The state step of the fetcher, taken every second tick. -/
def fetchStep (e : PpuEnv) (p : Ppu) : Ppu :=
  let f := p.fetcher
  match f.fstate with
  | .readTileId =>
    let a : Int := ((f.mapAddress.toNat + f.xOffset.toNat : Nat) : Int)
    { p with fetcher := { f with tileId := e.vram 0 a, tileAttr := if e.cgb then e.vram 1 a else 0, fstate := .readData1 } }
  | .readData1 =>
    { p with fetcher := { f with
        tileData1 := e.tileData f.tileId f.tileLine.toNat 0 f.tileDataAddress f.tileIdSigned f.tileAttr 8
        fstate := .readData2 } }
  | .readData2 =>
    { p with fetcher := { f with
        tileData2 := e.tileData f.tileId f.tileLine.toNat 1 f.tileDataAddress f.tileIdSigned f.tileAttr 8
        fstate := .push } }
  | .push =>
    if p.fifo.length ≤ 8 then
      { p with fifo := p.fifo ++ Slot.ofLine e.cgb (zipLine f.tileData1 f.tileData2 (bitAt f.tileAttr 5)) f.tileAttr
               fetcher := { f with xOffset := f.xOffset + 1, fstate := .readTileId } }
    else p
  | .readSpriteTileId =>
    { p with fetcher := { f with tileId := e.oamRead (f.sprite.addr + 2), fstate := .readSpriteFlags } }
  | .readSpriteFlags =>
    { p with fetcher := { f with spriteAttr := e.oamRead (f.sprite.addr + 3), fstate := .readSpriteData1 } }
  | .readSpriteData1 =>
    let id := if p.spriteHeight = 16 then f.tileId &&& 0xFE else f.tileId
    { p with fetcher := { f with
        tileId := id, tileData1 := e.tileData id f.spriteTileLine 0 0x8000 false f.spriteAttr p.spriteHeight
        fstate := .readSpriteData2 } }
  | .readSpriteData2 =>
    { p with fetcher := { f with
        tileData2 := e.tileData f.tileId f.spriteTileLine 1 0x8000 false f.spriteAttr p.spriteHeight
        fstate := .pushSprite } }
  | .pushSprite =>
    { p with
      fifo := overlayFifo (bitAt p.lcdc 0) f.spriteAttr f.spriteIndex
        ((zipLine f.tileData1 f.tileData2 (bitAt f.spriteAttr 5)).drop f.spriteOffset) p.fifo
      fetcher := { f with fstate := .readTileId } }

/-- `FetcherTick()`. -/
def fetcherTick (e : PpuEnv) (p : Ppu) : Ppu :=
  if p.fetcher.fetchingDisabled && decide (p.fetcher.fstate = .readTileId) then
    if p.fifo.length ≤ 8 then { p with fifo := p.fifo ++ Slot.ofLine e.cgb [0, 0, 0, 0, 0, 0, 0, 0] 0 } else p
  else
    match p.fetcher.divider with
    | .two => { p with fetcher := { p.fetcher with divider := .one } }
    | .one => fetchStep e { p with fetcher := { p.fetcher with divider := .two } }

/-- `AddSprite(s, offset, k)` (48_ppu R420). -/
def addSprite (p : Ppu) (s : Sprite) (offset k : Nat) : Ppu :=
  { p with
    fetcher := { p.fetcher with
      sprite := s, fstate := .readSpriteTileId, spriteTileLine := (p.ly.toNat : Int) + 16 - s.y.toNat
      spriteOffset := offset, spriteIndex := k }
    sprites := p.sprites.zipIdx.map (fun q => if q.2 = k then (q.1.1, true) else q.1) }

/-- The first unused sprite, in list order, that starts at pixel `x`, with its offset and its index (48_ppu R416). -/
def nextSprite (x : Nat) : Nat → List (Sprite × Bool) → Option (Sprite × Nat × Nat)
  | _, [] => none
  | k, (s, used) :: rest =>
    if used then nextSprite x (k + 1) rest
    else if x = 0 ∧ s.x.toNat < 8 then some (s, 8 - s.x.toNat, k)
    else if s.x.toNat = x + 8 then some (s, 0, k)
    else nextSprite x (k + 1) rest

/-- The host call that a pixel makes (48_ppu R434). -/
def emit (p : Ppu) (s : Slot) : HostCall :=
  match s.tag with
  | .dmg src =>
    let reg := match src with
      | .bg => p.bgp
      | .obj0 => p.obp0
      | .obj1 => p.obp1
    .putDmgPixel (reg.extractLsb' (2 * s.colour.toNat) 2)
  | .cgb n prio =>
    let port := match prio with
      | .sprite _ => p.objPal
      | .bgNormal => p.bgPal
      | .bgPriority => p.bgPal
    .putColorPixel ((port.colour n s.colour).setWidth 15)

/-- `FifoPutPixelToScreen()`; a pixel taken from an empty FIFO is a free value (log 13). -/
def putPixel (e : PpuEnv) (p : Ppu) : Ppu × HostCall :=
  match p.fifo with
  | s :: rest => ({ p with fifo := rest }, p.emit s)
  | [] =>
    (p, if e.cgb then .putColorPixel (Config.emptyFifoPixel e.masterTicks)
        else .putDmgPixel ((Config.emptyFifoPixel e.masterTicks).setWidth 2))

/-- What a phase tick answers: the unit, whether the phase goes on, and the pixel sent, if any. -/
structure PhaseResult where
  ppu : Ppu
  goesOn : Bool
  pixel : Option HostCall

/-- The part of a PixelTransfer tick after the background checks: the sprites, then the pixel (48_ppu R416). -/
def spritesAndPixel (e : PpuEnv) (p : Ppu) : PhaseResult :=
  let out (q : Ppu) : PhaseResult :=
    let r := putPixel e q
    { ppu := { r.1 with x := r.1.x + 1 }, goesOn := decide (r.1.x + 1 ≠ 160), pixel := some r.2 }
  if bitAt p.lcdc 1 then
    if p.fetcher.spriteInProgress then { ppu := p, goesOn := true, pixel := none }
    else
      match nextSprite p.x 0 p.sprites with
      | some (s, offset, k) => { ppu := p.addSprite s offset k, goesOn := true, pixel := none }
      | none => out p
  else out p

/-- One `PhaseTick` of PixelTransfer (48_ppu R416). -/
def transferTick (e : PpuEnv) (p0 : Ppu) : PhaseResult :=
  let p := fetcherTick e p0
  if bitAt p.lcdc 0 || e.cgb then
    if p.fifo.length ≤ 8 then { ppu := p, goesOn := true, pixel := none }
    else if p.droppedPixels < p.scx.toNat % 8 then
      { ppu := { p with fifo := p.fifo.drop 1, droppedPixels := p.droppedPixels + 1 }, goesOn := true, pixel := none }
    else if !p.window && bitAt p.lcdc 5 && decide (p.wy.toNat ≤ p.ly.toNat) && decide (p.x + 7 = p.wx.toNat) then
      { ppu := ({ p with window := true } : Ppu).startFetchingWindow, goesOn := true, pixel := none }
    else spritesAndPixel e p
  else spritesAndPixel e p

/-- `PhaseTick()` of the current mode (48_ppu R410, R416, R436, R437). -/
def phaseTick (e : PpuEnv) (p : Ppu) : PhaseResult :=
  match p.mode with
  | .oamSearch => let r := searchTick e p; { ppu := r.1, goesOn := r.2, pixel := none }
  | .pixelTransfer => transferTick e p
  | .hblank =>
    { ppu := { p with hblankTicks := p.hblankTicks + 1 }, goesOn := decide (p.hblankTicks + 1 < 456), pixel := none }
  | .vblank =>
    { ppu := { p with vblankTicks := p.vblankTicks + 1 }, goesOn := decide (p.vblankTicks + 1 < 456), pixel := none }

/-! ### The mode machine (48_ppu R401) -/

/-- What a PPU tick answers: the unit, its two interrupt requests and its calls to the host, latest first. -/
structure TickResult where
  ppu : Ppu
  vblank : Bool
  stat : Bool
  calls : List HostCall

/-- `RequestStat(b)`: whether the enable bit `b` (3 to 6) of STAT is set. -/
def statEnabled (p : Ppu) (b : Nat) : Bool := bitAt p.statEn (b - 3)

/-- `RequestLycEqualsLy()`: whether it requests LCDC. -/
def lycRequest (p : Ppu) : Bool := decide (p.lyc = p.ly) && p.statEnabled 6

/-- The mode change when a phase has ended, and the two requests (48_ppu R401). -/
def nextPhase (cgb : Bool) (p : Ppu) : Ppu × Bool × Bool :=
  match p.mode with
  | .oamSearch => (({ p with mode := .pixelTransfer } : Ppu).startPixelTransfer cgb, false, false)
  | .pixelTransfer => ({ p with mode := .hblank, hblankTicks := p.ticksInLine }, false, p.statEnabled 3)
  | .hblank =>
    let q : Ppu := { p with ticksInLine := 0, ly := p.ly + 1 }
    if q.ly = 144 then
      ({ q with mode := .vblank, vblankTicks := 0 }, true, q.statEnabled 4 || q.statEnabled 5 || q.lycRequest)
    else (({ q with mode := .oamSearch } : Ppu).startOamSearch, false, q.statEnabled 5 || q.lycRequest)
  | .vblank =>
    let q : Ppu := { p with ticksInLine := 0, ly := p.ly + 1 }
    if q.ly = 1 then
      let r := ({ q with mode := .oamSearch, ly := 0 } : Ppu).startOamSearch
      (r, false, r.statEnabled 5 || r.lycRequest)
    else ({ q with vblankTicks := 0 }, false, q.lycRequest)

/-- The tick of an enabled LCD. -/
def enabledTick (e : PpuEnv) (p : Ppu) (calls : List HostCall) : TickResult :=
  let r := phaseTick e { p with ticksInLine := p.ticksInLine + 1 }
  let out := r.pixel.toList ++ calls
  if r.goesOn then
    if r.ppu.ticksInLine = 4 ∧ r.ppu.mode = .vblank ∧ r.ppu.ly = 153 then
      let q := { r.ppu with ly := 0 }
      { ppu := q, vblank := false, stat := q.lycRequest, calls := out }
    else { ppu := r.ppu, vblank := false, stat := false, calls := out }
  else
    let n := nextPhase e.cgb r.ppu
    { ppu := n.1, vblank := n.2.1, stat := n.2.2, calls := out }

/-- `PpuTick()` (48_ppu R401). -/
def tick (e : PpuEnv) (p : Ppu) : TickResult :=
  if p.lcdEnabled then enabledTick e p []
  else if p.lcdEnabledDelay = -1 then { ppu := p, vblank := false, stat := false, calls := [] }
  else if p.lcdEnabledDelay - 1 = 0 then
    enabledTick e { p with lcdEnabledDelay := 0, lcdEnabled := true } [.enableLcd]
  else { ppu := { p with lcdEnabledDelay := p.lcdEnabledDelay - 1 }, vblank := false, stat := false, calls := [] }

/-! ### Registers (48_ppu R440 to R448, 10_state R43 to R45) -/

/-- `DisableLcd()`, without the host's notification (48_ppu R440). -/
def disableLcd (offStart : Nat) (p : Ppu) : Ppu :=
  { p with ly := 0, ticksInLine := 0, mode := .hblank, hblankTicks := offStart, lcdEnabled := false, lcdEnabledDelay := -1 }

/-- A write to LCDC (48_ppu R440, R441, R445). -/
def writeLcdc (c : Config) (p : Ppu) (v : Byte) : Ppu :=
  if bitAt v 7 then { p with lcdc := v, lcdEnabledDelay := (c.lcdOnDelay : Int) }
  else ({ p with lcdc := v } : Ppu).disableLcd c.lcdOffHblankStart

/-- A CPU write to a PPU register; any other address is not this unit's. LY is read-only (48_ppu R446). -/
def write (c : Config) (p : Ppu) (n : Nat) (v : Byte) : Ppu :=
  if n < 0xFF40 then p
  else if n = 0xFF40 then p.writeLcdc c v
  else if n = 0xFF41 then { p with statEn := v.extractLsb' 3 4 }
  else if n = 0xFF42 then { p with scy := v }
  else if n = 0xFF43 then { p with scx := v }
  else if n = 0xFF45 then { p with lyc := v }
  else if n = 0xFF47 then { p with bgp := v }
  else if n = 0xFF48 then { p with obp0 := v }
  else if n = 0xFF49 then { p with obp1 := v }
  else if n = 0xFF4A then { p with wy := v }
  else if n = 0xFF4B then { p with wx := v }
  else if n = 0xFF4F then { p with vbk := v.setWidth 1 }
  else if n = 0xFF68 then { p with bgPal := p.bgPal.writeIndex v }
  else if n = 0xFF69 then { p with bgPal := p.bgPal.writeData v }
  else if n = 0xFF6A then { p with objPal := p.objPal.writeIndex v }
  else if n = 0xFF6B then { p with objPal := p.objPal.writeData v }
  else p

/-- STAT as read: composed, not stored (10_state R44). -/
def readStat (p : Ppu) : Byte :=
  0x80 ||| (p.statEn.setWidth 8 <<< 3) ||| maskIf (decide (p.ly = p.lyc)) 4 ||| BitVec.ofNat 8 p.mode.number

/-- A read of a PPU register (10_state R43 to R45, 48_ppu R447, R448). -/
def read (p : Ppu) (n : Nat) : Byte :=
  if n = 0xFF40 then p.lcdc
  else if n = 0xFF41 then p.readStat
  else if n = 0xFF42 then p.scy
  else if n = 0xFF43 then p.scx
  else if n = 0xFF44 then p.ly
  else if n = 0xFF45 then p.lyc
  else if n = 0xFF47 then p.bgp
  else if n = 0xFF48 then p.obp0
  else if n = 0xFF49 then p.obp1
  else if n = 0xFF4A then p.wy
  else if n = 0xFF4B then p.wx
  else if n = 0xFF4F then 0xFE ||| p.vbk.setWidth 8
  else if n = 0xFF68 then p.bgPal.readIndex
  else if n = 0xFF69 then p.bgPal.readData
  else if n = 0xFF6A then p.objPal.readIndex
  else p.objPal.readData

/-- The unit at reset (70_reset R613; fields the spec gives no value: log 21, palette bytes: log 3). -/
def reset (c : Config) : Ppu :=
  { lcdc := if c.useBootRom then 0x00 else 0x91
    statEn := 0, scy := 0, scx := 0, ly := 0, lyc := 0
    bgp := if c.useBootRom then 0x00 else 0xFC
    obp0 := if c.useBootRom then 0x00 else 0xFF
    obp1 := if c.useBootRom then 0x00 else 0xFF
    wy := 0, wx := 0, vbk := 0
    bgPal := .reset c.initBgPalette, objPal := .reset c.initObjPalette
    mode := if c.useBootRom then .hblank else .oamSearch
    ticksInLine := 0
    hblankTicks := if c.useBootRom then c.lcdOffHblankStart else 0
    vblankTicks := 0
    lcdEnabled := !c.useBootRom
    lcdEnabledDelay := -1
    search := { i := 0, sub := .readingY, spriteY := 0, spriteX := 0, selected := [] }
    x := 0, droppedPixels := 0, window := false, sprites := []
    fetcher := { fstate := .readTileId, divider := .two, fetchingDisabled := false, mapAddress := 0, tileDataAddress := 0
                 tileIdSigned := false, xOffset := 0, tileLine := 0, tileId := 0, tileData1 := 0, tileData2 := 0
                 tileAttr := 0, sprite := { x := 0, y := 0, addr := 0 }, spriteTileLine := 0, spriteOffset := 0
                 spriteIndex := 0, spriteAttr := 0 }
    fifo := [] }

end Ppu

end Sys2Proof.Machine
end

