-- ==== Sys2Proof/Machine/Dma.lean ====
section
/-! DEFINITION. The two DMA engines' own state (spec/49_dma_apu.md R460 to R474, spec/10_state.md R47, R48). The copies
themselves go through memory and are in Machine/Devices.lean. -/

namespace Sys2Proof.Machine

/-- The OAM DMA engine. -/
structure Dma where
  dmaReg : Byte
  transferInProgress : Bool
  restarted : Bool
  /-- `from` -/
  source : Word
  dmaTicks : Nat
  deriving DecidableEq, Repr

namespace Dma

/-- `OamBlocked()` (49_dma_apu R464). -/
def oamBlocked (blockAfter : Nat) (d : Dma) : Bool :=
  d.restarted || (d.transferInProgress && decide (blockAfter ≤ d.dmaTicks))

/-- A CPU write to 0xFF46 (49_dma_apu R461); any other address is not this unit's. -/
def write (blockAfter : Nat) (d : Dma) (n : Nat) (v : Byte) : Dma :=
  if n = 0xFF46 then
    { dmaReg := v, transferInProgress := true, restarted := d.oamBlocked blockAfter, source := joinBytes v 0, dmaTicks := 0 }
  else d

/-- `DmaTick()` without the copy, and whether the copy happens in this tick (49_dma_apu R462). -/
def tick (d : Dma) (limit : Nat) : Dma × Bool :=
  if d.transferInProgress then
    if limit ≤ d.dmaTicks + 1 then ({ d with transferInProgress := false, restarted := false, dmaTicks := 0 }, true)
    else ({ d with dmaTicks := d.dmaTicks + 1 }, false)
  else (d, false)

/-- 70_reset R614. -/
def reset : Dma := { dmaReg := 0xFF, transferInProgress := false, restarted := false, source := 0, dmaTicks := 0 }

end Dma

/-- The HDMA engine, of use only when `cgb`. -/
structure Hdma where
  hdma1 : Byte
  hdma2 : Byte
  hdma3 : Byte
  hdma4 : Byte
  inProgress : Bool
  hblankTransfer : Bool
  length : BitVec 7
  src : Word
  dst : Word
  tick : Nat
  gpuModeSeen : Option Mode
  lcdOn : Bool
  deriving DecidableEq, Repr

namespace Hdma

/-- `HdmaTransferInProgress()` (49_dma_apu R472). -/
def active (h : Hdma) : Bool :=
  h.inProgress && (!h.hblankTransfer || decide (h.gpuModeSeen = some .hblank) || !h.lcdOn)

/-- The start of a transfer by a write to HDMA5 (49_dma_apu R471). -/
def start (h : Hdma) (v : Byte) : Hdma :=
  { h with
    hblankTransfer := bitAt v 7
    length := v.setWidth 7
    src := joinBytes h.hdma1 (h.hdma2 &&& 0xF0)
    dst := (joinBytes (h.hdma3 &&& 0x1F) (h.hdma4 &&& 0xF0) &&& 0x1FFF) ||| 0x8000
    inProgress := true }

/-- A CPU write to 0xFF51..0xFF55 (49_dma_apu R470, R471); any other address is not this unit's. -/
def write (h : Hdma) (n : Nat) (v : Byte) : Hdma :=
  if n = 0xFF51 then { h with hdma1 := v }
  else if n = 0xFF52 then { h with hdma2 := v }
  else if n = 0xFF53 then { h with hdma3 := v }
  else if n = 0xFF54 then { h with hdma4 := v }
  else if n = 0xFF55 then (if h.inProgress && !bitAt v 7 then { h with inProgress := false } else h.start v)
  else h

/-- A read of 0xFF51..0xFF55: only HDMA5 is readable (49_dma_apu R470, R471). -/
def read (h : Hdma) (n : Nat) : Byte :=
  if n = 0xFF55 then maskIf (!h.inProgress) 0x80 ||| h.length.setWidth 8 else 0xFF

/-- What `HdmaTick()` does to the engine after a block has been copied (49_dma_apu R473). -/
def blockDone (h : Hdma) : Hdma :=
  { h with
    src := h.src + 0x10
    dst := h.dst + 0x10
    inProgress := if h.length = 0 then false else h.inProgress
    length := if h.length = 0 then 0x7F else h.length - 1
    gpuModeSeen := if h.length ≠ 0 ∧ h.hblankTransfer then none else h.gpuModeSeen
    tick := 0 }

/-- `OnGpuUpdate(m)` where the mode changed, and `OnLcdSwitch(b)` (20_memory R120, 49_dma_apu R472; log 14). -/
def observe (h : Hdma) (newMode : Option Mode) (lcdEnabled : Bool) : Hdma :=
  { h with gpuModeSeen := if newMode.isSome then newMode else h.gpuModeSeen, lcdOn := lcdEnabled }

/-- 49_dma_apu R470; the addresses: log 21. -/
def reset (lcdEnabled : Bool) : Hdma :=
  { hdma1 := 0, hdma2 := 0, hdma3 := 0, hdma4 := 0, inProgress := false, hblankTransfer := false, length := 0x7F
    src := 0, dst := 0, tick := 0, gpuModeSeen := none, lcdOn := lcdEnabled }

end Hdma

end Sys2Proof.Machine
end

