-- ==== Sys2Proof/Machine/Irq.lean ====
section
/-! DEFINITION. The interrupt controller: IF, IE, IME and its delay counters (spec/60_exceptions.md R550 to R564,
spec/10_state.md R37 to R40). -/

namespace Sys2Proof.Machine

/-- The five interrupt sources, in priority order (60_exceptions R550). -/
inductive Irq where
  | vblank | lcdc | timer | serial | joypad
  deriving DecidableEq, Repr

/-- The number `i` of a source: its bit in IF and IE. -/
def Irq.number : Irq → Nat
  | .vblank => 0 | .lcdc => 1 | .timer => 2 | .serial => 3 | .joypad => 4

/-- The value of a delay counter: -1 (idle), 1 or 0 (10_state R38). -/
inductive Delay where
  | idle | one | zero
  deriving DecidableEq, Repr

structure IrqCtl where
  ime : Bool
  pendingEnable : Delay
  pendingDisable : Delay
  /-- IF bits 4:0 -/
  ifFlags : BitVec 5
  ie : Byte
  deriving DecidableEq, Repr

namespace IrqCtl

/-- The value IF reads: bits 7:5 read 1 (10_state R39). -/
def readIf (q : IrqCtl) : Byte := 0xE0 ||| q.ifFlags.setWidth 8

/-- `RequestInterrupt(i)` (60_exceptions R551). -/
def request (q : IrqCtl) (i : Irq) : IrqCtl := { q with ifFlags := q.ifFlags ||| (1#5 <<< i.number) }

/-- `RequestInterrupt(i)` where a condition holds. -/
def requestIf (q : IrqCtl) (b : Bool) (i : Irq) : IrqCtl :=
  { q with ifFlags := if b then (q.request i).ifFlags else q.ifFlags }

/-- `ClearInterrupt(i)` (60_exceptions R551). -/
def clear (q : IrqCtl) (i : Irq) : IrqCtl := { q with ifFlags := q.ifFlags &&& ~~~(1#5 <<< i.number) }

/-- `Pending()`: some source is both requested and enabled (60_exceptions R552). -/
def pending (q : IrqCtl) : Bool := decide (q.ifFlags &&& q.ie.setWidth 5 ≠ 0)

/-- `EnableInterrupts(withDelay)` (60_exceptions R561). -/
def enable (q : IrqCtl) (withDelay : Bool) : IrqCtl :=
  if withDelay then
    { q with pendingDisable := .idle, pendingEnable := if q.pendingEnable = .idle then .one else q.pendingEnable }
  else { q with pendingDisable := .idle, pendingEnable := .idle, ime := true }

/-- `DisableInterrupts(withDelay)` (60_exceptions R562). -/
def disable (q : IrqCtl) (diDelay withDelay : Bool) : IrqCtl :=
  if withDelay && diDelay then
    { q with pendingEnable := .idle, pendingDisable := if q.pendingDisable = .idle then .one else q.pendingDisable }
  else { q with pendingEnable := .idle, pendingDisable := .idle, ime := false }

/-- The first branch of `OnInstructionFinished()`. -/
def stepEnable (q : IrqCtl) : IrqCtl :=
  match q.pendingEnable with
  | .idle => q
  | .zero => q.enable false
  | .one => { q with pendingEnable := .zero }

/-- The second branch of `OnInstructionFinished()`. -/
def stepDisable (q : IrqCtl) (diDelay : Bool) : IrqCtl :=
  match q.pendingDisable with
  | .idle => q
  | .zero => q.disable diDelay false
  | .one => { q with pendingDisable := .zero }

/-- `OnInstructionFinished()` (60_exceptions R563): both branches, in this order. -/
def instructionFinished (q : IrqCtl) (diDelay : Bool) : IrqCtl := (q.stepEnable).stepDisable diDelay

/-- The least source set in both latched values, or none (60_exceptions R554, R567). -/
def select (irqIF irqIE : Byte) : Option Irq :=
  [Irq.vblank, .lcdc, .timer, .serial, .joypad].find? (fun i => bitAt irqIF i.number && bitAt irqIE i.number)

/-- A CPU write to 0xFF0F or 0xFFFF (10_state R39, R40); any other address is not this unit's. -/
def write (q : IrqCtl) (n : Nat) (v : Byte) : IrqCtl :=
  { q with
    ifFlags := if n = 0xFF0F then v.setWidth 5 else q.ifFlags
    ie := if n = 0xFFFF then v else q.ie }

end IrqCtl

/-- The vector address of a source: `0x0040 + 8 * i` (60_exceptions R550, R570). -/
def Irq.vector (i : Irq) : Word := BitVec.ofNat 16 (0x0040 + 8 * i.number)

end Sys2Proof.Machine
end

