-- ==== Sys2Proof/Machine/Joypad.lean ====
section
/-! DEFINITION. The joypad register P1, its eight buttons, and the events of the host (spec/60_exceptions.md R556,
spec/10_state.md R50, spec/00_scope.md R15). -/

namespace Sys2Proof.Machine

inductive Button where
  | right | left | up | down | a | b | select | start
  deriving DecidableEq, Repr

/-- What the host may do to a running core (00_scope R15): press or release a button, or set the cooperative stop flag. -/
inductive HostEvent where
  | press (b : Button)
  | release (b : Button)
  | stop
  deriving DecidableEq, Repr

/-- The set of pressed buttons. -/
structure Pressed where
  right : Bool
  left : Bool
  up : Bool
  down : Bool
  a : Bool
  b : Bool
  select : Bool
  start : Bool
  deriving DecidableEq, Repr

/-- No button pressed. -/
def Pressed.none : Pressed := ⟨false, false, false, false, false, false, false, false⟩

/-- The set with one button made pressed or released. -/
def Pressed.update (p : Pressed) (x : Button) (v : Bool) : Pressed :=
  match x with
  | .right => { p with right := v }
  | .left => { p with left := v }
  | .up => { p with up := v }
  | .down => { p with down := v }
  | .a => { p with a := v }
  | .b => { p with b := v }
  | .select => { p with select := v }
  | .start => { p with start := v }

structure Joypad where
  /-- bits 5:4 of P1 as last written; a 0 selects a line -/
  p1sel : BitVec 2
  pressed : Pressed
  deriving DecidableEq, Repr

namespace Joypad

/-- The masks of the pressed direction keys, line 0x10. -/
def directionMask (p : Pressed) : Byte :=
  maskIf p.right 0x01 ||| maskIf p.left 0x02 ||| maskIf p.up 0x04 ||| maskIf p.down 0x08

/-- The masks of the pressed button keys, line 0x20. -/
def buttonMask (p : Pressed) : Byte :=
  maskIf p.a 0x01 ||| maskIf p.b 0x02 ||| maskIf p.select 0x04 ||| maskIf p.start 0x08

/-- A read of P1: a pressed button of a selected line reads 0 (60_exceptions R556). -/
def read (j : Joypad) : Byte :=
  (0xCF ||| (j.p1sel.setWidth 8 <<< 4)) &&&
    ~~~((if bitAt j.p1sel 0 then 0 else directionMask j.pressed) |||
        (if bitAt j.p1sel 1 then 0 else buttonMask j.pressed))

/-- A CPU write to 0xFF00. -/
def write (j : Joypad) (n : Nat) (v : Byte) : Joypad :=
  { j with p1sel := if n = 0xFF00 then v.extractLsb' 4 2 else j.p1sel }

/-- `Press(b)` and `Release(b)` (60_exceptions R556). -/
def apply (j : Joypad) (e : HostEvent) : Joypad :=
  match e with
  | .press b => { j with pressed := j.pressed.update b true }
  | .release b => { j with pressed := j.pressed.update b false }
  | .stop => j

end Joypad

/-- A press requests interrupt 4, whatever lines are selected; a release requests nothing (60_exceptions R556). -/
def HostEvent.requests : HostEvent → Bool
  | .press _ => true
  | .release _ => false
  | .stop => false

/-- Whether an event sets the stop flag (00_scope R15). -/
def HostEvent.stops : HostEvent → Bool
  | .press _ => false
  | .release _ => false
  | .stop => true

end Sys2Proof.Machine
end

