-- ==== Sys2Proof/Machine/Serial.lean ====
section
/-! DEFINITION. The serial port (spec/60_exceptions.md R557, spec/10_state.md R50). -/

namespace Sys2Proof.Machine

structure Serial where
  sb : Byte
  sc : Byte
  busy : Bool
  div : Nat
  deriving DecidableEq, Repr

namespace Serial

/-- `SERIAL_TICKS` = 4194304 / 8192. -/
def serialTicks : Nat := 512

/-- `Transfer(outgoingByte)`: 0xFF without a peer, 0x00 from a failing endpoint, a free value otherwise (log 10). -/
def transfer (peer : SerialPeer) (masterTick : Nat) (out : Byte) : Byte :=
  match peer with
  | .absent => 0xFF
  | .failing => 0x00
  | .external => Config.serialReply masterTick out

/-- `SerialTick()` and whether it completes a transfer, which calls `Transfer(SB)` and requests interrupt 3. -/
def tick (p : Serial) (peer : SerialPeer) (masterTick : Nat) : Serial × Bool :=
  if p.busy then
    if p.div + 1 ≥ serialTicks then
      ({ p with div := p.div + 1, busy := false, sc := p.sc &&& 0x7F, sb := transfer peer masterTick p.sb }, true)
    else ({ p with div := p.div + 1 }, false)
  else (p, false)

/-- A CPU write to 0xFF01 or 0xFF02. -/
def write (p : Serial) (n : Nat) (v : Byte) : Serial :=
  if n = 0xFF01 then { p with sb := v }
  else if n = 0xFF02 then
    { p with
      sc := v &&& 0x83
      busy := if bitAt v 7 then true else p.busy
      div := if bitAt v 7 then 0 else p.div }
  else p

/-- A read of 0xFF01 or 0xFF02. -/
def read (p : Serial) (cgb : Bool) (n : Nat) : Byte :=
  if n = 0xFF01 then p.sb else if cgb then p.sc ||| 0x7C else p.sc ||| 0x7E

end Serial

end Sys2Proof.Machine
end

