-- ==== Sys2Proof/Machine/Timer.lean ====
section
/-! DEFINITION. The timer (spec/60_exceptions.md R580 to R589, spec/10_state.md R42). -/

namespace Sys2Proof.Machine

structure Timer where
  div16 : Word
  tima : Byte
  tma : Byte
  tac : BitVec 3
  prevBit : Bool
  overflow : Bool
  ticksSinceOverflow : Nat
  deriving DecidableEq, Repr

namespace Timer

/-- `TimerBit(TAC[1:0])` (60_exceptions R582). -/
def selectedBit (t : Timer) : Nat :=
  match field t.tac 0 2 with
  | 0 => 9
  | 1 => 3
  | 2 => 5
  | _ => 7

/-- `IncTima()` (60_exceptions R583). -/
def incTima (t : Timer) : Timer :=
  if t.tima + 1 = 0 then { t with tima := 0, overflow := true, ticksSinceOverflow := 0 }
  else { t with tima := t.tima + 1 }

/-- The level the edge detector looks at for a counter value. -/
def level (t : Timer) (n : Word) : Bool := bitAt n t.selectedBit && bitAt t.tac 2

/-- `UpdateDiv(n)`: the falling-edge detector (60_exceptions R582). -/
def updateDiv (t : Timer) (n : Word) : Timer :=
  let t1 := if t.prevBit && !t.level n then t.incTima else t
  { t1 with div16 := n, prevBit := t.level n }

/-- `TimerTick()` and whether it requests interrupt 2 (60_exceptions R581). -/
def tick (t : Timer) : Timer × Bool :=
  let u := t.updateDiv (t.div16 + 1)
  if u.overflow then
    let k := u.ticksSinceOverflow + 1
    if k = 4 then ({ u with ticksSinceOverflow := k }, true)
    else if k = 5 then ({ u with ticksSinceOverflow := k, tima := u.tma }, false)
    else if k = 6 then ({ u with ticksSinceOverflow := 0, tima := u.tma, overflow := false }, false)
    else ({ u with ticksSinceOverflow := k }, false)
  else (u, false)

/-- A write to TIMA (60_exceptions R586). -/
def writeTima (t : Timer) (v : Byte) : Timer :=
  if t.ticksSinceOverflow < 5 then { t with tima := v, overflow := false, ticksSinceOverflow := 0 } else t

/-- A CPU write to 0xFF04..0xFF07 (60_exceptions R585 to R587); any other address is not this unit's. -/
def write (t : Timer) (n : Nat) (v : Byte) : Timer :=
  if n = 0xFF04 then t.updateDiv 0
  else if n = 0xFF05 then t.writeTima v
  else if n = 0xFF06 then { t with tma := v }
  else if n = 0xFF07 then { t with tac := v.setWidth 3 }
  else t

/-- A read of 0xFF04..0xFF07 (10_state R42). -/
def read (t : Timer) (n : Nat) : Byte :=
  if n = 0xFF04 then hiByte t.div16
  else if n = 0xFF05 then t.tima
  else if n = 0xFF06 then t.tma
  else 0xF8 ||| t.tac.setWidth 8

end Timer

end Sys2Proof.Machine
end

