-- ==== Sys2Proof/Machine/State.lean ====
section
/-! DEFINITION. The machine's state: every piece of state spec/10_state.md and the device files name, the
configuration record (assumption log 1) and the model's own counter of master ticks (log 19), all plain data. -/

namespace Sys2Proof.Machine

/-- The register file (10_state R20, R21, R28, R30). -/
structure Regs where
  a : Byte
  f : Byte
  b : Byte
  c : Byte
  d : Byte
  e : Byte
  h : Byte
  l : Byte
  sp : Word
  pc : Word
  deriving DecidableEq, Repr

/-- `state` (10_state R31). -/
inductive Fsm where
  | opcode | extOpcode | operand | running
  | irqReadIf | irqReadIe | irqPush1 | irqPush2 | irqJump
  | stopped | halted
  deriving DecidableEq, Repr

/-- The opcode-table entry selected by a fetch: of the base table or of the table after 0xCB (10_state R33). -/
inductive TableEntry where
  | base (opcode : Byte)
  | cb (opcode2 : Byte)
  deriving DecidableEq, Repr

/-- `UnknownOpcode(byte, pc)` (10_state R36). -/
structure UnknownOpcode where
  byte : Byte
  pc : Word
  deriving DecidableEq, Repr

/-- The CPU engine (10_state R31 to R36). -/
structure Engine where
  fsm : Fsm
  clockCycle : Nat
  opcode1 : Byte
  opcode2 : Byte
  operand0 : Byte
  operand1 : Byte
  operandIndex : Nat
  entry : Option TableEntry
  opIndex : Nat
  ctx : Word
  haltBugMode : Bool
  irqIF : Byte
  irqIE : Byte
  irqSel : Option Irq
  faulted : Option UnknownOpcode
  deriving DecidableEq, Repr

/-- `speed` (10_state R41). -/
inductive Speed where
  | normal | double
  deriving DecidableEq, Repr

/-- `speed` as the number 1 or 2. -/
def Speed.factor : Speed → Nat
  | .normal => 1 | .double => 2

/-- The speed switch, KEY1 (10_state R41). -/
structure SpeedSwitch where
  speed : Speed
  prepareSwitch : Bool
  deriving DecidableEq, Repr

/-- The host's side: the events still to come, each with the number of master ticks before it (log 11), the trace of
calls made so far, latest first, whether a refresh was requested and not yet waited for (log 17), and the cooperative
stop flag (00_scope R15; log 23). -/
structure HostSide where
  events : List (Nat × HostEvent)
  calls : List HostCall
  refreshRequested : Bool
  stopFlag : Bool
  deriving DecidableEq, Repr

structure State where
  cfg : Config
  regs : Regs
  eng : Engine
  irq : IrqCtl
  spd : SpeedSwitch
  timer : Timer
  ppu : Ppu
  dma : Dma
  hdma : Hdma
  apu : Apu
  joypad : Joypad
  serial : Serial
  svbk : BitVec 3
  bootRomEnabled : Bool
  /-- the cartridge's own state, numbered (20_memory R96; log 4) -/
  cart : Nat
  mem : List Host.Cell
  host : HostSide
  /-- the model's own: master ticks so far, the index of the free values (log 19) -/
  masterTicks : Nat
  deriving DecidableEq, Repr

/-- Why a step can stop with a fault. -/
inductive Fault where
  /-- Raised by `step` on a machine that has fetched an undefined opcode byte and is stuck for good (60_exceptions
  R540, R577; 40_cpu_fsm R198): what `faulted` records. Safe: the hardware described takes no further step either. -/
  | unknownOpcode (byte : Byte) (pc : Word)
  deriving DecidableEq, Repr

/-- Why the model can refuse. -/
inductive Refusal where
  /-- Raised by an arm of `exec` for an instruction that has no meaning yet. Safe: nothing runs. No arm raises it. -/
  | notModelled (mnemonic : String)
  deriving DecidableEq, Repr

namespace State

/-- CPU registers at reset (10_state R20, R21, R28, R30; 70_reset R611). -/
def resetRegs (c : Config) : Regs :=
  if c.useBootRom then { a := 0, f := 0, b := 0, c := 0, d := 0, e := 0, h := 0, l := 0, sp := 0, pc := 0 }
  else { a := if c.cgb then 0x11 else 0x01, f := 0xB0, b := 0x00, c := 0x13, d := 0x00, e := 0xD8, h := 0x01, l := 0x4D
         sp := 0xFFFE, pc := 0x0100 }

/-- The engine at reset (70_reset R611). -/
def resetEngine : Engine :=
  { fsm := .opcode, clockCycle := 0, opcode1 := 0, opcode2 := 0, operand0 := 0, operand1 := 0, operandIndex := 0
    entry := none, opIndex := 0, ctx := 0, haltBugMode := false, irqIF := 0, irqIE := 0, irqSel := none, faulted := none }

/-- The reset procedure for a configuration: the construction of the state in one step (70_reset R610 to R617). The
host's trace is empty then: that the sound unit's post-boot register writes call no `host.Start()` is the model's choice
(49_dma_apu R482, R484; log 17). -/
def resetWith (c : Config) : State :=
  { cfg := c
    regs := resetRegs c
    eng := resetEngine
    irq := { ime := false, pendingEnable := .idle, pendingDisable := .idle
             ifFlags := if c.useBootRom then 0 else 1, ie := 0 }
    spd := { speed := .normal, prepareSwitch := false }
    timer := { div16 := if c.useBootRom then 0 else 0xABCC, tima := 0, tma := 0, tac := 0, prevBit := false
               overflow := false, ticksSinceOverflow := 0 }
    ppu := .reset c
    dma := .reset
    hdma := .reset (!c.useBootRom)
    apu := .reset c.cgb c.useBootRom
    joypad := { p1sel := 0, pressed := .none }
    serial := { sb := 0, sc := 0, busy := false, div := 0 }
    svbk := 0
    bootRomEnabled := c.useBootRom
    cart := c.cartStart
    mem := c.initMem
    host := { events := [], calls := [], refreshRequested := false, stopFlag := false }
    masterTicks := 0 }

/-- The machine constructed for a cartridge: its header, unless forced, decides the variant (00_scope R8). -/
def construct (c : Config) (force : Option ForcedVariant) : State := resetWith (c.construct force)

/-- The machine right after reset, in the variant of `Config.initial`: DMG, post-boot (log 1). -/
def reset : State := resetWith Config.initial

end State

end Sys2Proof.Machine
end

