-- ==== Sys2Proof/Machine/Mmu.lean ====
section
/-! DEFINITION. The MMU: which cell or register an address names, and the byte read and write every access of every
agent goes through (spec/20_memory.md R80 to R96, R115). An access never faults (R83, R84). -/

namespace Sys2Proof.Machine

/-- What an address names in a given state. -/
inductive Place where
  /-- a readable and writable memory cell, by its storage key -/
  | cell (key : Nat)
  /-- an address of the cartridge region (R86, R96) -/
  | cart (n : Nat)
  /-- an address under the boot ROM overlay: reads give the boot ROM, writes reach the cartridge (R87) -/
  | boot (n : Nat)
  /-- a device register -/
  | device (n : Nat)
  /-- no region: reads 0xFF, writes dropped (R83) -/
  | void
  deriving DecidableEq, Repr

/-- `OamBlocked()` (49_dma_apu R464). -/
def State.oamBlocked (s : State) : Bool := s.dma.oamBlocked s.cfg.dmaBlockAfter

/-- Whether the PPU keeps the CPU out of VRAM: only with `ppuBlocksCpu` (48_ppu R448). -/
def State.vramGated (s : State) : Bool :=
  s.cfg.ppuBlocksCpu && s.ppu.lcdEnabled && decide (s.ppu.mode = .pixelTransfer)

/-- Whether the PPU keeps the CPU out of OAM: only with `ppuBlocksCpu` (48_ppu R448). -/
def State.oamGated (s : State) : Bool :=
  s.cfg.ppuBlocksCpu && s.ppu.lcdEnabled &&
    (decide (s.ppu.mode = .oamSearch) || decide (s.ppu.mode = .pixelTransfer))

/-- Whether the boot ROM overlay covers a ROM address (20_memory R87). -/
def State.bootCovers (s : State) (a : Nat) : Bool :=
  s.bootRomEnabled && (decide (a < 0x100) || (s.cfg.cgb && decide (0x200 ≤ a) && decide (a < 0x900)))

/-- The storage key of a VRAM address: bank `VBK[0]` when `cgb` (20_memory R88, 48_ppu R448). -/
def State.vramKey (s : State) (a : Nat) : Nat := if s.cfg.cgb then s.ppu.vbk.toNat * 0x10000 + a else a

/-- The storage key of a work RAM address: bank `max(1, SVBK)` in 0xD000..0xDFFF when `cgb` (20_memory R90). -/
def State.wramKey (s : State) (a : Nat) : Nat :=
  if s.cfg.cgb && decide (0xD000 ≤ a) then (max 1 s.svbk.toNat - 1) * 0x10000 + a else a

/-- The mapped device registers (20_memory R94); the CGB-only ones exist when `cgb`. -/
def mapped (cgb : Bool) (n : Nat) : Bool :=
  decide (n ≤ 0xFF02) || (decide (0xFF04 ≤ n) && decide (n ≤ 0xFF07)) || decide (n = 0xFF0F) ||
  (decide (0xFF10 ≤ n) && decide (n ≤ 0xFF26)) || (decide (0xFF30 ≤ n) && decide (n ≤ 0xFF3F)) ||
  (decide (0xFF40 ≤ n) && decide (n ≤ 0xFF4B)) || decide (n = 0xFF50) ||
  (cgb && (decide (n = 0xFF4D) || decide (n = 0xFF4F) || (decide (0xFF51 ≤ n) && decide (n ≤ 0xFF55)) ||
    (decide (0xFF68 ≤ n) && decide (n ≤ 0xFF6B)) || decide (n = 0xFF70)))

/-- The region dispatch (20_memory R81, R85 to R95). -/
def region (s : State) (addr : Word) : Place :=
  let a := addr.toNat
  if a < 0x8000 then (if s.bootCovers a then .boot a else .cart a)
  else if a < 0xA000 then .cell (s.vramKey a)
  else if a < 0xC000 then .cart a
  else if a < 0xE000 then .cell (s.wramKey a)
  else if a < 0xFE00 then .cell (s.wramKey (a - 0x2000))
  else if a < 0xFEA0 then (if s.oamBlocked then .void else .cell a)
  else if a < 0xFF00 then .void
  else if a < 0xFF80 then (if mapped s.cfg.cgb a then .device a else .void)
  else if a < 0xFFFF then .cell a
  else .device 0xFFFF

/-- Whether the PPU's mode keeps the CPU from an address (48_ppu R448; log 16). -/
def State.gated (s : State) (addr : Word) : Bool :=
  let a := addr.toNat
  (decide (0x8000 ≤ a) && decide (a < 0xA000) && s.vramGated) ||
    (decide (0xFE00 ≤ a) && decide (a < 0xFEA0) && s.oamGated)

/-- What an address names for an access of the CPU: the region dispatch behind the PPU's gate (48_ppu R448). -/
def place (s : State) (addr : Word) : Place := if s.gated addr then .void else region s addr

/-- A read of KEY1 (10_state R41). -/
def SpeedSwitch.read (k : SpeedSwitch) : Byte :=
  maskIf (decide (k.speed = .double)) 0x80 ||| 0x7E ||| maskIf k.prepareSwitch 1

/-- A write to KEY1; any other address is not this unit's. -/
def SpeedSwitch.write (k : SpeedSwitch) (n : Nat) (v : Byte) : SpeedSwitch :=
  { k with prepareSwitch := if n = 0xFF4D then bitAt v 0 else k.prepareSwitch }

/-- The value of a device register (10_state R39 to R50, 20_memory R87, R90). -/
def readDevice (s : State) (n : Nat) : Byte :=
  if n = 0xFFFF then s.irq.ie
  else if n = 0xFF00 then s.joypad.read
  else if n ≤ 0xFF02 then s.serial.read s.cfg.cgb n
  else if n ≤ 0xFF07 then s.timer.read n
  else if n = 0xFF0F then s.irq.readIf
  else if n < 0xFF40 then s.apu.read s.cfg.cgb n
  else if n = 0xFF46 then s.dma.dmaReg
  else if n = 0xFF4D then s.spd.read
  else if n = 0xFF50 then 0xFF
  else if n = 0xFF70 then 0xF8 ||| s.svbk.setWidth 8
  else if 0xFF51 ≤ n ∧ n ≤ 0xFF55 then s.hdma.read n
  else s.ppu.read n

/-- Adds calls, latest first, to the host's trace. -/
def HostSide.push (h : HostSide) (calls : List HostCall) : HostSide := { h with calls := calls ++ h.calls }

/-- The host calls a device write makes: `DisableLcd` (48_ppu R440) and the sound unit's `Start` and `Stop`
(49_dma_apu R484). -/
def deviceCalls (s : State) (n : Nat) (v : Byte) : List HostCall :=
  if n = 0xFF40 then (if bitAt v 7 then [] else [.disableLcd])
  else if n = 0xFF26 then
    (if bitAt v 7 then (if s.apu.enabled then [] else [.soundStart]) else (if s.apu.enabled then [.soundStop] else []))
  else []

/-- A write to a device register: it is offered to every unit, and each takes its own addresses (20_memory R105). -/
def writeDevice (s : State) (n : Nat) (v : Byte) : State :=
  { s with
    irq := s.irq.write n v
    spd := s.spd.write n v
    timer := s.timer.write n v
    ppu := s.ppu.write s.cfg n v
    dma := s.dma.write s.cfg.dmaBlockAfter n v
    hdma := s.hdma.write n v
    apu := s.apu.write s.cfg.cgb n v
    joypad := s.joypad.write n v
    serial := s.serial.write n v
    svbk := if n = 0xFF70 then v.setWidth 3 else s.svbk
    bootRomEnabled := if n = 0xFF50 then false else s.bootRomEnabled
    host := s.host.push (deviceCalls s n v) }

/-- A write that reaches the cartridge region: it changes the cartridge's own state and nothing else (20_memory R96). -/
def writeCart (s : State) (n : Nat) (v : Byte) : State := { s with cart := s.cfg.cartWrite s.cart n v }

/-- The byte a place holds. -/
def readAt (s : State) (p : Place) : Byte :=
  match p with
  | .cell k => Mem.read s.mem k
  | .cart n => s.cfg.cartRead s.cart s.mem n
  | .boot n => s.cfg.bootByte n
  | .device n => readDevice s n
  | .void => 0xFF

/-- A byte stored at a place. -/
def writeAt (s : State) (p : Place) (v : Byte) : State :=
  match p with
  | .cell k => { s with mem := Mem.write s.mem k v }
  | .cart n => writeCart s n v
  | .boot n => writeCart s n v
  | .device n => writeDevice s n v
  | .void => s

/-- `MemRead(addr, 1)` of the CPU (20_memory R81, 48_ppu R448). -/
def memRead (s : State) (addr : Word) : Byte := readAt s (place s addr)

/-- `MemWrite(addr, 1, v)` of the CPU (20_memory R82, 48_ppu R448). -/
def memWrite (s : State) (addr : Word) (v : Byte) : State := writeAt s (place s addr) v

/-- `MmuRead(addr)`: the region dispatch, as the DMA engines use it (49_dma_apu R463, R473). -/
def mmuRead (s : State) (addr : Word) : Byte := readAt s (region s addr)

/-- A write of the HDMA engine through the MMU (49_dma_apu R473). -/
def mmuWrite (s : State) (addr : Word) (v : Byte) : State := writeAt s (region s addr) v

end Sys2Proof.Machine
end

