-- ==== Sys2Proof/Machine/Devices.lean ====
section
/-! DEFINITION. One master tick of every agent but the CPU, in the order of spec/20_memory.md R120, and the passage of
time between two gated ticks of the CPU (spec/40_cpu_fsm.md R171, spec/20_memory.md R121). -/

namespace Sys2Proof.Machine

/-! ### Before the CPU in a master tick -/

/-- What the events due now leave: the joypad, whether one requests interrupt 4, whether one sets the stop flag, and
the events still to come, one tick nearer. -/
structure Delivery where
  joypad : Joypad
  requests : Bool
  stops : Bool
  rest : List (Nat × HostEvent)

/-- The events due now, applied in order (60_exceptions R556, 00_scope R15; log 11). -/
def deliver : List (Nat × HostEvent) → Joypad → Delivery
  | [], j => { joypad := j, requests := false, stops := false, rest := [] }
  | (0, e) :: rest, j =>
    let r := deliver rest (j.apply e)
    { r with requests := e.requests || r.requests, stops := e.stops || r.stops }
  | (n + 1, e) :: rest, j => { joypad := j, requests := false, stops := false, rest := (n, e) :: rest }

/-- The host's events, applied between master ticks; the model's own tick counter advances here. -/
def applyEvents (s : State) : State :=
  let r := deliver s.host.events s.joypad
  { s with
    joypad := r.joypad
    irq := s.irq.requestIf r.requests .joypad
    host := { s.host with events := r.rest, stopFlag := s.host.stopFlag || r.stops }
    masterTicks := s.masterTicks + 1 }

/-- `TimerTick()` (60_exceptions R581). -/
def timerTick (s : State) : State :=
  { s with timer := s.timer.tick.1, irq := s.irq.requestIf s.timer.tick.2 .timer }

/-- What happens in a master tick before the CPU: the events, then the timer. -/
def preCpu (s : State) : State := timerTick (applyEvents s)

/-! ### HDMA in the CPU's place -/

/-- `HdmaTransferInProgress()`; HDMA exists only when `cgb` (49_dma_apu R470, R472). -/
def State.hdmaActive (s : State) : Bool := s.cfg.cgb && s.hdma.active

/-- Copies the bytes `j`, `j+1`, ... of an HDMA block through the MMU, one after the other (49_dma_apu R473). -/
def copyBlock (src dst : Word) : Nat → Nat → State → State
  | 0, _, s => s
  | k + 1, j, s =>
    copyBlock src dst k (j + 1)
      (mmuWrite s (dst + BitVec.ofNat 16 j) (mmuRead s (src + BitVec.ofNat 16 j)))

/-- The end of a block. -/
def hdmaBlockDone (s : State) : State := { s with hdma := s.hdma.blockDone }

/-- One tick of the block counter. -/
def hdmaCount (s : State) : State := { s with hdma := { s.hdma with tick := s.hdma.tick + 1 } }

/-- `HdmaTick()` (49_dma_apu R473). -/
def hdmaTick (s : State) : State :=
  if s.hdma.tick + 1 < s.cfg.hdmaBlockTicks then hdmaCount s
  else hdmaBlockDone (copyBlock s.hdma.src s.hdma.dst 16 0 (hdmaCount s))

/-! ### After the CPU in a master tick -/

/-- `DmaRead(a)`: the echo-aware read of the OAM DMA engine (49_dma_apu R463). -/
def dmaRead (s : State) (a : Word) : Byte := if a.toNat < 0xE000 then mmuRead s a else mmuRead s (a - 0x2000)

/-- The 160 bytes an OAM DMA copies. -/
def dmaBytes (s : State) (source : Word) : List Byte :=
  (List.range 0xA0).map (fun i => dmaRead s (source + BitVec.ofNat 16 i))

/-- `DMA_TICKS / speed` (49_dma_apu R462). -/
def State.dmaLimit (s : State) : Nat := s.cfg.dmaTicks / s.spd.speed.factor

/-- `DmaTick()` (49_dma_apu R462): the engine writes OAM directly (20_memory R115). -/
def dmaTick (s : State) : State :=
  { s with
    dma := (s.dma.tick s.dmaLimit).1
    mem := if (s.dma.tick s.dmaLimit).2 then Mem.writeAll s.mem 0xFE00 (dmaBytes s s.dma.source) else s.mem }

/-- `SoundTick()` and the sample divider (49_dma_apu R483, R520; log 17). -/
def Apu.clock (divider : Nat) (u : Apu) : Apu × List HostCall :=
  let r := u.tick
  match r.2 with
  | none => (r.1, [])
  | some pair =>
    if divider ≤ u.sampleTick + 1 then ({ r.1 with sampleTick := 0 }, [.play (BitVec.ofNat 8 pair.1) (BitVec.ofNat 8 pair.2)])
    else ({ r.1 with sampleTick := u.sampleTick + 1 }, [])

/-- `SoundTick()` in the machine. -/
def soundTick (s : State) : State :=
  { s with apu := (s.apu.clock s.cfg.sampleDivider).1
           host := s.host.push (s.apu.clock s.cfg.sampleDivider).2 }

/-- The call a completed transfer made: `Transfer` of the byte that was in SB (60_exceptions R557). -/
def transferCalls (completed : Bool) (sb : Byte) : List HostCall := if completed then [.transfer sb] else []

/-- `SerialTick()` (60_exceptions R557). -/
def serialTick (s : State) : State :=
  { s with serial := (s.serial.tick s.cfg.serialPeer s.masterTicks).1
           irq := s.irq.requestIf (s.serial.tick s.cfg.serialPeer s.masterTicks).2 .serial
           host := s.host.push (transferCalls (s.serial.tick s.cfg.serialPeer s.masterTicks).2 s.serial.sb) }

/-- What the PPU observes. -/
def State.ppuEnv (s : State) : PpuEnv :=
  { cgb := s.cfg.cgb, oamBlocked := s.oamBlocked, mem := s.mem, masterTicks := s.masterTicks }

/-- The mode the PPU reports: the new one if it changed (48_ppu R401). -/
def reportedMode (old new : Ppu) : Option Mode := if new.mode = old.mode then none else some new.mode

/-- The refresh handshake of the orchestrator: `RequestRefresh` at VBlank, `WaitForRefresh` at the next OamSearch
(48_ppu R449). -/
def HostSide.refresh (h : HostSide) (report : Option Mode) : HostSide :=
  if report = some .vblank then { h with calls := .requestRefresh :: h.calls, refreshRequested := true }
  else if report = some .oamSearch ∧ h.refreshRequested then
    { h with calls := .waitForRefresh :: h.calls, refreshRequested := false }
  else h

/-- `PpuTick()` with its requests, and what HDMA and the host are told of it (20_memory R120, 48_ppu R401). -/
def ppuTick (s : State) : State :=
  let r := s.ppu.tick s.ppuEnv
  { s with
    ppu := r.ppu
    irq := (s.irq.requestIf r.vblank .vblank).requestIf r.stat .lcdc
    hdma := s.hdma.observe (reportedMode s.ppu r.ppu) r.ppu.lcdEnabled
    host := (s.host.push r.calls).refresh (reportedMode s.ppu r.ppu) }

/-- What happens in a master tick after the CPU (20_memory R120). -/
def postCpu (s : State) : State := ppuTick (serialTick (soundTick (dmaTick s)))

/-! ### From one gated tick to the next -/

/-- `4 / speed`: the master ticks of an M-cycle (40_cpu_fsm R171). -/
def State.ticksPerCycle (s : State) : Nat := 4 / s.spd.speed.factor

/-- Whether this call of `CpuTick` is the gated one. -/
def State.atGate (s : State) : Bool := decide (s.ticksPerCycle ≤ s.eng.clockCycle + 1)

/-- The sub-cycle counter of `CpuTick` (40_cpu_fsm R170, R171). -/
def countCycle (s : State) : State :=
  { s with eng := { s.eng with clockCycle := if s.atGate then 0 else s.eng.clockCycle + 1 } }

/-- Master ticks, whole ones, up to the point in a master tick where the CPU's gated tick begins. While HDMA
transfers, it takes the CPU's place (20_memory R120, R121). The first argument bounds the number of master ticks. -/
def toSlot : Nat → State → State
  | 0, s => s
  | n + 1, s =>
    let s1 := preCpu s
    if s1.hdmaActive then toSlot n (postCpu (hdmaTick s1))
    else if s1.atGate then countCycle s1
    else toSlot n (postCpu (countCycle s1))

/-- More master ticks than can pass between two gated ticks: a general HDMA transfer of 128 blocks and one block of
the next, and the M-cycle itself (49_dma_apu R473; log 15). -/
def State.slotBound (s : State) : Nat := (s.cfg.hdmaBlockTicks + 1) * 256 + 8

/-- From a boundary between master ticks to the next gated tick of the CPU. -/
def nextSlot (s : State) : State := toSlot s.slotBound s

/-- From inside a gated tick to the same point of the next one: one M-cycle passes for every other agent. -/
def nextCycle (s : State) : State := nextSlot (postCpu s)

end Sys2Proof.Machine
end

