-- ==== Sys2Proof/Machine/Flags.lean ====
section
/-! DEFINITION. Every flag computation of the instruction set (spec/43_alu8.md R280 to R298, spec/44_alu16.md,
spec/45_rotate_shift_bit.md): operands become integers, the exact result is computed, and the carries are
comparisons on it. -/

namespace Sys2Proof.Machine

/-- The four flags (10_state R25). -/
structure Flags where
  z : Bool
  n : Bool
  h : Bool
  c : Bool
  deriving DecidableEq, Repr

namespace Flags

/-- F holds Z, N, H, C in bits 7 to 4; its low nibble is always zero (10_state R24, R25). -/
def pack (g : Flags) : Byte := maskIf g.z 0x80 ||| maskIf g.n 0x40 ||| maskIf g.h 0x20 ||| maskIf g.c 0x10

/-- The flags an F byte holds. -/
def unpack (f : Byte) : Flags := { z := bitAt f 7, n := bitAt f 6, h := bitAt f 5, c := bitAt f 4 }

/-- `cc(c)` (30_encoding R137). -/
def holds (g : Flags) : Cond → Bool
  | .nz => !g.z
  | .z => g.z
  | .nc => !g.c
  | .c => g.c

end Flags

/-- An 8-bit result with the flags after it. -/
structure Res8 where
  val : Byte
  flags : Flags
  deriving DecidableEq, Repr

/-- A 16-bit result with the flags after it. -/
structure Res16 where
  val : Word
  flags : Flags
  deriving DecidableEq, Repr

namespace Alu

/-- `Add8(a, v, cin)` (43_alu8 R288). -/
def add8 (a v : Byte) (cin : Bool) : Res8 :=
  let s := a.toNat + v.toNat + bit01 cin
  let res := BitVec.ofNat 8 s
  { val := res
    flags := { z := decide (res = 0), n := false
               h := decide (a.toNat % 16 + v.toNat % 16 + bit01 cin > 0xF), c := decide (s > 0xFF) } }

/-- `Sub8(a, v, cin)` (43_alu8 R288). -/
def sub8 (a v : Byte) (cin : Bool) : Res8 :=
  let d : Int := (a.toNat : Int) - v.toNat - bit01 cin
  let res := BitVec.ofInt 8 d
  { val := res
    flags := { z := decide (res = 0), n := true
               h := decide (((a.toNat % 16 : Nat) : Int) - ((v.toNat % 16 : Nat) : Int) - bit01 cin < 0)
               c := decide (d < 0) } }

/-- AND, XOR and OR: the flags besides Z are fixed (43_alu8 R284 to R286). -/
def logic (res : Byte) (h : Bool) : Res8 :=
  { val := res, flags := { z := decide (res = 0), n := false, h := h, c := false } }

/-- The two-operand operations `f(flags, a, v)` (43_alu8 R280 to R287). CP leaves `a` (R289). -/
def two (op : AluOp) (g : Flags) (a v : Byte) : Res8 :=
  match op with
  | .add => add8 a v false
  | .adc => add8 a v g.c
  | .sub => sub8 a v false
  | .sbc => sub8 a v g.c
  | .and => logic (a &&& v) true
  | .xor => logic (a ^^^ v) false
  | .or => logic (a ||| v) false
  | .cp => { val := a, flags := (sub8 a v false).flags }

/-- INC: C unchanged (43_alu8 R290). -/
def inc (g : Flags) (v : Byte) : Res8 :=
  let res := v + 1
  { val := res, flags := { z := decide (res = 0), n := false, h := decide (v.toNat % 16 = 0xF), c := g.c } }

/-- DEC: C unchanged (43_alu8 R292). -/
def dec (g : Flags) (v : Byte) : Res8 :=
  let res := v - 1
  { val := res, flags := { z := decide (res = 0), n := true, h := decide (v.toNat % 16 = 0), c := g.c } }

/-- DAA (43_alu8 R294): the corrections on an integer, the result modulo 256, C never cleared. -/
def daa (g : Flags) (v : Byte) : Res8 :=
  let a : Int := v.toNat
  let high : Bool := !g.n && (g.c || decide (v.toNat > 0x99))
  let low : Bool := !g.n && (g.h || decide (v.toNat % 16 > 0x09))
  let sum : Int :=
    if g.n then a - (if g.c then 0x60 else 0) - (if g.h then 0x06 else 0)
    else a + (if high then 0x60 else 0) + (if low then 0x06 else 0)
  let res := BitVec.ofInt 8 sum
  { val := res, flags := { z := decide (res = 0), n := g.n, h := false, c := g.c || high } }

/-- CPL: Z and C unchanged (43_alu8 R295). -/
def cpl (g : Flags) (v : Byte) : Res8 := { val := v ^^^ 0xFF, flags := { g with n := true, h := true } }

/-- SCF: Z unchanged, the operand passed through (43_alu8 R296). -/
def scf (g : Flags) (v : Byte) : Res8 := { val := v, flags := { g with n := false, h := false, c := true } }

/-- CCF: Z unchanged, the operand passed through (43_alu8 R297). -/
def ccf (g : Flags) (v : Byte) : Res8 := { val := v, flags := { g with n := false, h := false, c := !g.c } }

/-- The result and the bit shifted out, of each rotate and shift (45_rotate_shift_bit R334 to R341). -/
def shifted (op : ShiftOp) (cy : Bool) (v : Byte) : Byte × Bool :=
  match op with
  | .rlc => ((v <<< 1) ||| maskIf (bitAt v 7) 0x01, bitAt v 7)
  | .rrc => ((v >>> 1) ||| maskIf (bitAt v 0) 0x80, bitAt v 0)
  | .rl => ((v <<< 1) ||| maskIf cy 0x01, bitAt v 7)
  | .rr => ((v >>> 1) ||| maskIf cy 0x80, bitAt v 0)
  | .sla => (v <<< 1, bitAt v 7)
  | .sra => ((v >>> 1) ||| (v &&& 0x80), bitAt v 0)
  | .swap => ((v <<< 4) ||| (v >>> 4), false)
  | .srl => (v >>> 1, bitAt v 0)

/-- A rotate or shift with its flags (45_rotate_shift_bit R334 to R341). -/
def shift (op : ShiftOp) (g : Flags) (v : Byte) : Res8 :=
  let r := shifted op g.c v
  { val := r.1, flags := { z := decide (r.1 = 0), n := false, h := false, c := r.2 } }

/-- `BIT(b)`: C unchanged (45_rotate_shift_bit R342). -/
def bitTest (g : Flags) (b : Nat) (v : Byte) : Flags := { z := !bitAt v b, n := false, h := true, c := g.c }

/-- `AddHL(hl, v)`: Z unchanged, carries from bit 11 and bit 15 (44_alu16 R320). -/
def addHl (g : Flags) (hl v : Word) : Res16 :=
  let s := hl.toNat + v.toNat
  { val := BitVec.ofNat 16 s
    flags := { z := g.z, n := false
               h := decide (hl.toNat % 0x1000 + v.toNat % 0x1000 > 0x0FFF), c := decide (s > 0xFFFF) } }

/-- `AddSP(sp, e)`: the flags from the unsigned addition of the low bytes, the result from the signed one (44_alu16
R323). -/
def addSp (sp : Word) (e : Byte) : Res16 :=
  { val := sp + sext16 e
    flags := { z := false, n := false
               h := decide (sp.toNat % 16 + e.toNat % 16 > 0x0F)
               c := decide (sp.toNat % 256 + e.toNat > 0xFF) } }

end Alu

end Sys2Proof.Machine
end

