-- ==== Sys2Proof/Machine/Operands.lean ====
section
/-! DEFINITION. Every operand form: registers and pairs (spec/10_state.md R20 to R24, R30; spec/30_encoding.md R135,
R136), the addressing modes of the micro-operations (spec/40_cpu_fsm.md R188) and the flags held in F. -/

namespace Sys2Proof.Machine

namespace Regs

/-- The 8-bit registers (10_state R20). -/
def get8 (r : Regs) : Reg8 → Byte
  | .b => r.b
  | .c => r.c
  | .d => r.d
  | .e => r.e
  | .h => r.h
  | .l => r.l
  | .a => r.a

def set8 (r : Regs) (x : Reg8) (v : Byte) : Regs :=
  match x with
  | .b => { r with b := v }
  | .c => { r with c := v }
  | .d => { r with d := v }
  | .e => { r with e := v }
  | .h => { r with h := v }
  | .l => { r with l := v }
  | .a => { r with a := v }

/-- `x[BC]`, `x[DE]`, `x[HL]`: the first-named register is the high byte (10_state R22). -/
def bc (r : Regs) : Word := joinBytes r.b r.c
def de (r : Regs) : Word := joinBytes r.d r.e
def hl (r : Regs) : Word := joinBytes r.h r.l
def af (r : Regs) : Word := joinBytes r.a r.f

def setBc (r : Regs) (v : Word) : Regs := { r with b := hiByte v, c := loByte v }
def setDe (r : Regs) (v : Word) : Regs := { r with d := hiByte v, e := loByte v }
def setHl (r : Regs) (v : Word) : Regs := { r with h := hiByte v, l := loByte v }

/-- A write to AF stores `v & 0xFFF0` (10_state R24, 40_cpu_fsm R187). -/
def setAf (r : Regs) (v : Word) : Regs := { r with a := hiByte v, f := loByte v &&& 0xF0 }

/-- `r16[p]` (30_encoding R136). -/
def get16 (r : Regs) : Reg16 → Word
  | .bc => r.bc
  | .de => r.de
  | .hl => r.hl
  | .sp => r.sp

def set16 (r : Regs) (x : Reg16) (v : Word) : Regs :=
  match x with
  | .bc => r.setBc v
  | .de => r.setDe v
  | .hl => r.setHl v
  | .sp => { r with sp := v }

/-- `r16stk[p]` (30_encoding R136). -/
def getStk (r : Regs) : StackReg → Word
  | .bc => r.bc
  | .de => r.de
  | .hl => r.hl
  | .af => r.af

def setStk (r : Regs) (x : StackReg) (v : Word) : Regs :=
  match x with
  | .bc => r.setBc v
  | .de => r.setDe v
  | .hl => r.setHl v
  | .af => r.setAf v

/-- The flags in F. -/
def flags (r : Regs) : Flags := .unpack r.f

/-- F written from four flags: its low nibble is zero (10_state R24). -/
def setFlags (r : Regs) (g : Flags) : Regs := { r with f := g.pack }

end Regs

/-- The registers a micro-operation `LDR` or `STR` can name (40_cpu_fsm R187). -/
inductive RegName where
  | r8 (r : Reg8)
  | r16 (r : Reg16)
  | stk (r : StackReg)
  | pc
  deriving DecidableEq, Repr

/-- `LDR(r)`: the value of a register, an 8-bit one extended with zeros. -/
def Regs.load (r : Regs) : RegName → Word
  | .r8 x => zext16 (r.get8 x)
  | .r16 x => r.get16 x
  | .stk x => r.getStk x
  | .pc => r.pc

/-- `STR(r)`: the low 8 bits for an 8-bit register (40_cpu_fsm R187). -/
def Regs.store (r : Regs) (x : RegName) (v : Word) : Regs :=
  match x with
  | .r8 y => r.set8 y (loByte v)
  | .r16 y => r.set16 y v
  | .stk y => r.setStk y v
  | .pc => { r with pc := v }

/-- The addressing modes of `RD` and `WR`, the operand bytes in them (40_cpu_fsm R188). -/
inductive AddrMode where
  | hl | bc | de | c
  | a8 (n : Byte)
  | a16 (nn : Word)
  deriving DecidableEq, Repr

/-- `Addr(am)` (40_cpu_fsm R188). -/
def Regs.addr (r : Regs) : AddrMode → Word
  | .hl => r.hl
  | .bc => r.bc
  | .de => r.de
  | .c => 0xFF00 + zext16 r.c
  | .a8 n => 0xFF00 + zext16 n
  | .a16 nn => nn

/-- The address range of the OAM bug (40_cpu_fsm R196). -/
def inOam (a : Word) : Bool := decide (0xFE00 ≤ a.toNat) && decide (a.toNat ≤ 0xFEFF)

/-! ### Updates of one part of the state -/

def State.setRegs (s : State) (r : Regs) : State := { s with regs := r }

def State.setCtx (s : State) (v : Word) : State := { s with eng := { s.eng with ctx := v } }

def State.setFlags (s : State) (g : Flags) : State := s.setRegs (s.regs.setFlags g)

def State.setIrq (s : State) (q : IrqCtl) : State := { s with irq := q }

def State.setFsm (s : State) (f : Fsm) : State := { s with eng := { s.eng with fsm := f } }

def State.setOpIndex (s : State) (n : Nat) : State := { s with eng := { s.eng with opIndex := n } }

/-- Records a call to the host. -/
def State.call (s : State) (c : HostCall) : State := { s with host := s.host.push [c] }

end Sys2Proof.Machine
end

