-- ==== Sys2Proof/Machine/Ops.lean ====
section
/-! DEFINITION. The operations shared by all instructions: the stack, the OAM corruption hook, the end of an
instruction, the interrupt sequence (taking an interrupt, one shared operation), the return from one, and the one
synchronous exception (spec/40_cpu_fsm.md R181, R195 to R198; spec/60_exceptions.md R540, R565 to R572). -/

namespace Sys2Proof.Machine

/-! ### The stack (10_state R30) -/

/-- Decrements SP, then stores at it. -/
def pushByte (s : State) (v : Byte) : State :=
  memWrite (s.setRegs { s.regs with sp := s.regs.sp - 1 }) (s.regs.sp - 1) v

/-- The byte at SP. -/
def topByte (s : State) : Byte := memRead s s.regs.sp

/-- Increments SP. -/
def dropByte (s : State) : State := s.setRegs { s.regs with sp := s.regs.sp + 1 }

/-! ### The OAM corruption hook (40_cpu_fsm R195) -/

/-- Whether the PPU is where the corruption happens: as left by the previous master tick. -/
def State.oamBugWindow (s : State) : Bool :=
  s.ppu.lcdEnabled && decide (s.ppu.mode = .oamSearch) && decide (s.ppu.ticksInLine < 79)

/-- The 160 bytes of OAM after the corruption: a free value (log 9). -/
def State.corruptedOam (s : State) (cause : OamCause) : List Byte :=
  (List.range 0xA0).map (Config.oamCorruption cause s.ppu.ticksInLine (Mem.readAll s.mem 0xFE00 0xA0))

/-- `OamBugCheck` for a given cause. -/
def oamBug (cause : Option OamCause) (s : State) : State :=
  match cause with
  | none => s
  | some k => if s.oamBugWindow then { s with mem := Mem.writeAll s.mem 0xFE00 (s.corruptedOam k) } else s

/-! ### The end of an instruction (40_cpu_fsm R181) -/

/-- `Finish()`: back to OPCODE, and the IME delay counters are stepped. -/
def finish (s : State) : State :=
  { s with
    eng := { s.eng with fsm := .opcode, operandIndex := 0 }
    irq := s.irq.instructionFinished s.cfg.diDelay }

/-! ### Interrupts (60_exceptions R561 to R572) -/

/-- `EnableInterrupts(withDelay)` of the machine. With `withDelay = false` it is what a return from an interrupt does
besides popping the pc (60_exceptions R572, 46_control_transfer R370). -/
def enableInterrupts (withDelay : Bool) (s : State) : State := s.setIrq (s.irq.enable withDelay)

/-- `DisableInterrupts(withDelay)` of the machine. -/
def disableInterrupts (withDelay : Bool) (s : State) : State := s.setIrq (s.irq.disable s.cfg.diDelay withDelay)

/-- IRQ_READ_IF, step 1 (60_exceptions R566). -/
def irqReadIf (s : State) : State := { s with eng := { s.eng with irqIF := memRead s 0xFF0F, fsm := .irqReadIe } }

/-- What step 2 does with the source selected, if any (60_exceptions R567). -/
def irqAcknowledge (s : State) : State :=
  match s.eng.irqSel with
  | none => s.setFsm .opcode
  | some i => disableInterrupts false ((s.setIrq (s.irq.clear i)).setFsm .irqPush1)

/-- IRQ_READ_IE, step 2 (60_exceptions R567). -/
def irqReadIe (s : State) : State :=
  let ie := memRead s 0xFFFF
  irqAcknowledge { s with eng := { s.eng with irqIE := ie, irqSel := IrqCtl.select s.eng.irqIF ie } }

/-- IRQ_PUSH_1, step 3 (60_exceptions R568). -/
def irqPush1 (s : State) : State := (pushByte s (hiByte s.regs.pc)).setFsm .irqPush2

/-- IRQ_PUSH_2, step 4 (60_exceptions R569). -/
def irqPush2 (s : State) : State := (pushByte s (loByte s.regs.pc)).setFsm .irqJump

/-- IRQ_JUMP, step 5 (60_exceptions R570); without a selected source, which no run reaches, pc stays (log 18). -/
def irqJump (s : State) : State :=
  { s with
    regs := match s.eng.irqSel with
      | some i => { s.regs with pc := i.vector }
      | none => s.regs
    eng := { s.eng with irqSel := none, fsm := .opcode } }

/-- Taking an interrupt: the five steps, one per gated tick, from the gated tick in which it is accepted to the one in
which the jump is made (60_exceptions R565 to R570, 40_cpu_fsm R172). -/
def takeInterrupt (s : State) : State :=
  let t := irqReadIe (nextCycle (irqReadIf s))
  match t.eng.irqSel with
  | none => t
  | some _ => irqJump (nextCycle (irqPush2 (nextCycle (irqPush1 (nextCycle t)))))

/-! ### The one synchronous exception -/

/-- `raise UnknownOpcode(byte, pc)`: recorded in `faulted`, nothing else changes, pc stays at the byte
(60_exceptions R540, 47_system R385; log 8). -/
def raiseUnknownOpcode (byte : Byte) (s : State) : State :=
  { s with eng := { s.eng with faulted := some { byte := byte, pc := s.regs.pc } } }

end Sys2Proof.Machine
end

