-- ==== Sys2Proof/Machine/MicroOp.lean ====
section
/-! DEFINITION. The micro-operations and the engine that runs a list of them (spec/40_cpu_fsm.md R180 to R188). A
micro-operation carries its operand bytes, which the rule's notation takes from `operand[]`. -/

namespace Sys2Proof.Machine

/-- The one-operand functions of `ALU1` (40_cpu_fsm R187). -/
inductive Alu1 where
  | inc | dec | daa | cpl | scf | ccf
  | shift (op : ShiftOp)
  deriving DecidableEq, Repr

/-- `f(flags, ctx)` of `ALU1`. -/
def Alu1.apply (f : Alu1) (g : Flags) (v : Byte) : Res8 :=
  match f with
  | .inc => Alu.inc g v
  | .dec => Alu.dec g v
  | .daa => Alu.daa g v
  | .cpl => Alu.cpl g v
  | .scf => Alu.scf g v
  | .ccf => Alu.ccf g v
  | .shift op => Alu.shift op g v

/-- The source of `ALU2` (40_cpu_fsm R187). -/
inductive AluSource where
  | reg (r : Reg8)
  | imm (n : Byte)
  | hl
  deriving DecidableEq, Repr

/-- The closed set of micro-operations (40_cpu_fsm R187). -/
inductive MicroOp where
  | ldr (r : RegName)
  | str (r : RegName)
  | imm8 (n : Byte)
  | imm16 (nn : Word)
  | const (v : Word)
  | rd (am : AddrMode)
  | wr (am : AddrMode)
  | wr16Lo (a : Word)
  | wr16Hi (a : Word)
  | alu1 (f : Alu1)
  | clrz
  | alu2 (op : AluOp) (src : AluSource)
  | inc16
  | dec16
  | addHl (rr : Reg16)
  | addSp (e : Byte)
  | addRel (e : Byte)
  | bit (b : Fin 8)
  | bitHl (b : Fin 8)
  | res (b : Fin 8)
  | set (b : Fin 8)
  | hlInc
  | hlDec
  | pushHi
  | pushLo
  | popLo
  | popHi
  | ifCc (c : Cond)
  | wait
  | fin
  | imeOn (delay : Bool)
  | imeOff (delay : Bool)
  deriving DecidableEq, Repr

namespace MicroOp

/-- The `mem` column of the catalogue (40_cpu_fsm R187): the operation claims the memory slot of a gated tick. -/
def mem : MicroOp → Bool
  | .rd _ => true
  | .wr _ => true
  | .wr16Lo _ => true
  | .wr16Hi _ => true
  | .alu2 _ .hl => true
  | .alu2 _ (.reg _) => false
  | .alu2 _ (.imm _) => false
  | .bitHl _ => true
  | .pushHi => true
  | .pushLo => true
  | .popLo => true
  | .popHi => true
  | .wait => true
  | .ldr _ => false
  | .str _ => false
  | .imm8 _ => false
  | .imm16 _ => false
  | .const _ => false
  | .alu1 _ => false
  | .clrz => false
  | .inc16 => false
  | .dec16 => false
  | .addHl _ => false
  | .addSp _ => false
  | .addRel _ => false
  | .bit _ => false
  | .res _ => false
  | .set _ => false
  | .hlInc => false
  | .hlDec => false
  | .ifCc _ => false
  | .fin => false
  | .imeOn _ => false
  | .imeOff _ => false

/-- `finish` holds of FIN only (40_cpu_fsm R185, R187). -/
def isFin (op : MicroOp) : Bool := decide (op = .fin)

/-- Whether the rest of the list runs: only IFCC can say no (40_cpu_fsm R182). -/
def proceeds (op : MicroOp) (s : State) : Bool :=
  match op with
  | .ifCc c => s.regs.flags.holds c
  | _ => true

/-- A cause if an address is in the OAM range. -/
def causeIf (a : Word) (k : OamCause) : Option OamCause := if inOam a then some k else none

/-- `Cause(op)`, on the values before the operation executes (40_cpu_fsm R196). -/
def cause (op : MicroOp) (s : State) : Option OamCause :=
  match op with
  | .pushHi => causeIf s.regs.sp .push1
  | .pushLo => causeIf s.regs.sp .push2
  | .popLo => causeIf s.regs.sp .pop1
  | .popHi => causeIf s.regs.sp .pop2
  | .inc16 => causeIf s.eng.ctx .incDec
  | .dec16 => causeIf s.eng.ctx .incDec
  | .hlInc => causeIf s.regs.hl .ldHl
  | .hlDec => causeIf s.regs.hl .ldHl
  | _ => none

/-- An 8-bit result into the context and the flags into F. -/
def put8 (s : State) (r : Res8) : State := (s.setFlags r.flags).setCtx (zext16 r.val)

/-- A 16-bit result into the context and the flags into F. -/
def put16 (s : State) (r : Res16) : State := (s.setFlags r.flags).setCtx r.val

/-- The value of the source of `ALU2`. -/
def sourceValue (s : State) : AluSource → Byte
  | .reg r => s.regs.get8 r
  | .imm n => n
  | .hl => memRead s s.regs.hl

/-- `Execute(op)`: the effect column of the catalogue (40_cpu_fsm R187). -/
def run (op : MicroOp) (s : State) : State :=
  match op with
  | .ldr r => s.setCtx (s.regs.load r)
  | .str r => s.setRegs (s.regs.store r s.eng.ctx)
  | .imm8 n => s.setCtx (zext16 n)
  | .imm16 nn => s.setCtx nn
  | .const v => s.setCtx v
  | .rd am => s.setCtx (zext16 (memRead s (s.regs.addr am)))
  | .wr am => memWrite s (s.regs.addr am) (loByte s.eng.ctx)
  | .wr16Lo a => memWrite s a (loByte s.eng.ctx)
  | .wr16Hi a => memWrite s (a + 1) (hiByte s.eng.ctx)
  | .alu1 f => put8 s (f.apply s.regs.flags (loByte s.eng.ctx))
  | .clrz => s.setFlags { s.regs.flags with z := false }
  | .alu2 op src => put8 s (Alu.two op s.regs.flags (loByte s.eng.ctx) (sourceValue s src))
  | .inc16 => s.setCtx (s.eng.ctx + 1)
  | .dec16 => s.setCtx (s.eng.ctx - 1)
  | .addHl rr => put16 s (Alu.addHl s.regs.flags s.eng.ctx (s.regs.get16 rr))
  | .addSp e => put16 s (Alu.addSp s.eng.ctx e)
  | .addRel e => s.setCtx (s.eng.ctx + sext16 e)
  | .bit b => s.setFlags (Alu.bitTest s.regs.flags b.val (loByte s.eng.ctx))
  | .bitHl b => s.setFlags (Alu.bitTest s.regs.flags b.val (memRead s s.regs.hl))
  | .res b => s.setCtx (s.eng.ctx &&& ~~~(1#16 <<< b.val))
  | .set b => s.setCtx (s.eng.ctx ||| (1#16 <<< b.val))
  | .hlInc => s.setRegs (s.regs.setHl (s.regs.hl + 1))
  | .hlDec => s.setRegs (s.regs.setHl (s.regs.hl - 1))
  | .pushHi => pushByte s (hiByte s.eng.ctx)
  | .pushLo => pushByte s (loByte s.eng.ctx)
  | .popLo => dropByte (s.setCtx (zext16 (topByte s)))
  | .popHi => dropByte (s.setCtx (s.eng.ctx ||| (zext16 (topByte s) <<< 8)))
  | .ifCc _ => s
  | .wait => s
  | .fin => s
  | .imeOn delay => enableInterrupts delay s
  | .imeOff delay => disableInterrupts delay s

/-- One executed micro-operation: `opIndex`, the OAM bug check, then the effect (40_cpu_fsm R180). -/
def step (op : MicroOp) (s : State) : State :=
  op.run (oamBug (op.cause s) (s.setOpIndex (s.eng.opIndex + 1)))

end MicroOp

/-- Runs a list of micro-operations to `Finish()`, under the memory-slot rule: `accessed` says whether the current
gated tick's slot is taken (40_cpu_fsm R180 to R185). The result is inside the gated tick of the `Finish()`. -/
def runOps : Bool → List MicroOp → State → State
  | _, [], s => finish s
  | accessed, op :: rest, s =>
    let s1 := if accessed && op.mem then nextCycle s else s
    let s2 := op.step s1
    if !op.proceeds s1 then finish (s2.setOpIndex (s2.eng.opIndex + rest.length))
    else if op.isFin then runOps false rest (nextCycle s2)
    else runOps (accessed || op.mem) rest s2

/-- The common shape of a meaning: from the gated tick in which the instruction's last byte was read (so the slot is
taken) to its `Finish()`. -/
def runMicro (ops : List MicroOp) (s : State) : Host.Outcome State Fault Refusal := .next (runOps true ops s)

end Sys2Proof.Machine
end

