-- ==== Sys2Proof/Machine/Alu16.lean ====
section
/-! DEFINITION. The meanings of the 16-bit arithmetic (spec/44_alu16.md R320 to R323):
first the micro-operation list of each form, as its rule gives it, then one definition per instruction. -/

namespace Sys2Proof.Machine

namespace Micro

/-- R320 -/
def addHlRr (rr : Reg16) : List MicroOp := [.ldr (.r16 .hl), .addHl rr, .wait, .str (.r16 .hl)]

/-- R321 -/
def incRr (rr : Reg16) : List MicroOp := [.ldr (.r16 rr), .inc16, .wait, .str (.r16 rr)]

/-- R322 -/
def decRr (rr : Reg16) : List MicroOp := [.ldr (.r16 rr), .dec16, .wait, .str (.r16 rr)]

/-- R323 -/
def addSpR8 (e : Int) : List MicroOp := [.ldr (.r16 .sp), .addSp (BitVec.ofInt 8 e), .wait, .wait, .str (.r16 .sp)]

end Micro

/-! ### One meaning per instruction -/

/-- `ADD SP,r8` (R323) -/
def execAddSpR8 (e : Int) (s : State) : Host.Outcome State Fault Refusal := runMicro (Micro.addSpR8 e) s

/-- `INC BC` (R321) -/
def execIncBc (s : State) : Host.Outcome State Fault Refusal := runMicro (Micro.incRr .bc) s

/-- `ADD HL,BC` (R320) -/
def execAddHlBc (s : State) : Host.Outcome State Fault Refusal := runMicro (Micro.addHlRr .bc) s

/-- `DEC BC` (R322) -/
def execDecBc (s : State) : Host.Outcome State Fault Refusal := runMicro (Micro.decRr .bc) s

/-- `INC DE` (R321) -/
def execIncDe (s : State) : Host.Outcome State Fault Refusal := runMicro (Micro.incRr .de) s

/-- `ADD HL,DE` (R320) -/
def execAddHlDe (s : State) : Host.Outcome State Fault Refusal := runMicro (Micro.addHlRr .de) s

/-- `DEC DE` (R322) -/
def execDecDe (s : State) : Host.Outcome State Fault Refusal := runMicro (Micro.decRr .de) s

/-- `INC HL` (R321) -/
def execIncHl (s : State) : Host.Outcome State Fault Refusal := runMicro (Micro.incRr .hl) s

/-- `ADD HL,HL` (R320) -/
def execAddHlHl (s : State) : Host.Outcome State Fault Refusal := runMicro (Micro.addHlRr .hl) s

/-- `DEC HL` (R322) -/
def execDecHl (s : State) : Host.Outcome State Fault Refusal := runMicro (Micro.decRr .hl) s

/-- `INC SP` (R321) -/
def execIncSp (s : State) : Host.Outcome State Fault Refusal := runMicro (Micro.incRr .sp) s

/-- `ADD HL,SP` (R320) -/
def execAddHlSp (s : State) : Host.Outcome State Fault Refusal := runMicro (Micro.addHlRr .sp) s

/-- `DEC SP` (R322) -/
def execDecSp (s : State) : Host.Outcome State Fault Refusal := runMicro (Micro.decRr .sp) s

end Sys2Proof.Machine
end

