-- ==== Sys2Proof/Machine/Alu8.lean ====
section
/-! DEFINITION. The meanings of the 8-bit arithmetic and logic (spec/43_alu8.md R280 to R297):
first the micro-operation list of each form, as its rule gives it, then one definition per instruction. -/

namespace Sys2Proof.Machine

namespace Micro

/-- R289 -/
def aluR (op : AluOp) (src : Reg8) : List MicroOp := [.ldr (.r8 .a), .alu2 op (.reg src), .str (.r8 .a)]

/-- R289 -/
def aluHl (op : AluOp) : List MicroOp := [.ldr (.r8 .a), .alu2 op .hl, .str (.r8 .a)]

/-- R289 -/
def aluD8 (op : AluOp) (n : Byte) : List MicroOp := [.ldr (.r8 .a), .alu2 op (.imm n), .str (.r8 .a)]

/-- R290 -/
def incR (r : Reg8) : List MicroOp := [.ldr (.r8 r), .alu1 .inc, .str (.r8 r)]

/-- R291 -/
def incHlMem : List MicroOp := [.rd .hl, .alu1 .inc, .wr .hl]

/-- R292 -/
def decR (r : Reg8) : List MicroOp := [.ldr (.r8 r), .alu1 .dec, .str (.r8 r)]

/-- R293 -/
def decHlMem : List MicroOp := [.rd .hl, .alu1 .dec, .wr .hl]

/-- R294 -/
def daa : List MicroOp := [.ldr (.r8 .a), .alu1 .daa, .str (.r8 .a)]

/-- R295 -/
def cpl : List MicroOp := [.ldr (.r8 .a), .alu1 .cpl, .str (.r8 .a)]

/-- R296 -/
def scf : List MicroOp := [.ldr (.r8 .a), .alu1 .scf, .str (.r8 .a)]

/-- R297 -/
def ccf : List MicroOp := [.ldr (.r8 .a), .alu1 .ccf, .str (.r8 .a)]

end Micro

/-! ### One meaning per instruction -/

/-- `ADD d8` (R280) -/
def execAddD8 (n : Byte) (s : State) : Host.Outcome State Fault Refusal := runMicro (Micro.aluD8 .add n) s

/-- `ADC d8` (R281) -/
def execAdcD8 (n : Byte) (s : State) : Host.Outcome State Fault Refusal := runMicro (Micro.aluD8 .adc n) s

/-- `SUB d8` (R282) -/
def execSubD8 (n : Byte) (s : State) : Host.Outcome State Fault Refusal := runMicro (Micro.aluD8 .sub n) s

/-- `SBC d8` (R283) -/
def execSbcD8 (n : Byte) (s : State) : Host.Outcome State Fault Refusal := runMicro (Micro.aluD8 .sbc n) s

/-- `AND d8` (R284) -/
def execAndD8 (n : Byte) (s : State) : Host.Outcome State Fault Refusal := runMicro (Micro.aluD8 .and n) s

/-- `XOR d8` (R285) -/
def execXorD8 (n : Byte) (s : State) : Host.Outcome State Fault Refusal := runMicro (Micro.aluD8 .xor n) s

/-- `OR d8` (R286) -/
def execOrD8 (n : Byte) (s : State) : Host.Outcome State Fault Refusal := runMicro (Micro.aluD8 .or n) s

/-- `CP d8` (R287) -/
def execCpD8 (n : Byte) (s : State) : Host.Outcome State Fault Refusal := runMicro (Micro.aluD8 .cp n) s

/-- `INC B` (R290) -/
def execIncB (s : State) : Host.Outcome State Fault Refusal := runMicro (Micro.incR .b) s

/-- `DEC B` (R292) -/
def execDecB (s : State) : Host.Outcome State Fault Refusal := runMicro (Micro.decR .b) s

/-- `INC C` (R290) -/
def execIncC (s : State) : Host.Outcome State Fault Refusal := runMicro (Micro.incR .c) s

/-- `DEC C` (R292) -/
def execDecC (s : State) : Host.Outcome State Fault Refusal := runMicro (Micro.decR .c) s

/-- `INC D` (R290) -/
def execIncD (s : State) : Host.Outcome State Fault Refusal := runMicro (Micro.incR .d) s

/-- `DEC D` (R292) -/
def execDecD (s : State) : Host.Outcome State Fault Refusal := runMicro (Micro.decR .d) s

/-- `INC E` (R290) -/
def execIncE (s : State) : Host.Outcome State Fault Refusal := runMicro (Micro.incR .e) s

/-- `DEC E` (R292) -/
def execDecE (s : State) : Host.Outcome State Fault Refusal := runMicro (Micro.decR .e) s

/-- `INC H` (R290) -/
def execIncH (s : State) : Host.Outcome State Fault Refusal := runMicro (Micro.incR .h) s

/-- `DEC H` (R292) -/
def execDecH (s : State) : Host.Outcome State Fault Refusal := runMicro (Micro.decR .h) s

/-- `DAA` (R294) -/
def execDaa (s : State) : Host.Outcome State Fault Refusal := runMicro Micro.daa s

/-- `INC L` (R290) -/
def execIncL (s : State) : Host.Outcome State Fault Refusal := runMicro (Micro.incR .l) s

/-- `DEC L` (R292) -/
def execDecL (s : State) : Host.Outcome State Fault Refusal := runMicro (Micro.decR .l) s

/-- `CPL` (R295) -/
def execCpl (s : State) : Host.Outcome State Fault Refusal := runMicro Micro.cpl s

/-- `INC (HL)` (R291) -/
def execIncAtHl (s : State) : Host.Outcome State Fault Refusal := runMicro Micro.incHlMem s

/-- `DEC (HL)` (R293) -/
def execDecAtHl (s : State) : Host.Outcome State Fault Refusal := runMicro Micro.decHlMem s

/-- `SCF` (R296) -/
def execScf (s : State) : Host.Outcome State Fault Refusal := runMicro Micro.scf s

/-- `INC A` (R290) -/
def execIncA (s : State) : Host.Outcome State Fault Refusal := runMicro (Micro.incR .a) s

/-- `DEC A` (R292) -/
def execDecA (s : State) : Host.Outcome State Fault Refusal := runMicro (Micro.decR .a) s

/-- `CCF` (R297) -/
def execCcf (s : State) : Host.Outcome State Fault Refusal := runMicro Micro.ccf s

/-- `ADD B` (R280) -/
def execAddB (s : State) : Host.Outcome State Fault Refusal := runMicro (Micro.aluR .add .b) s

/-- `ADD C` (R280) -/
def execAddC (s : State) : Host.Outcome State Fault Refusal := runMicro (Micro.aluR .add .c) s

/-- `ADD D` (R280) -/
def execAddD (s : State) : Host.Outcome State Fault Refusal := runMicro (Micro.aluR .add .d) s

/-- `ADD E` (R280) -/
def execAddE (s : State) : Host.Outcome State Fault Refusal := runMicro (Micro.aluR .add .e) s

/-- `ADD H` (R280) -/
def execAddH (s : State) : Host.Outcome State Fault Refusal := runMicro (Micro.aluR .add .h) s

/-- `ADD L` (R280) -/
def execAddL (s : State) : Host.Outcome State Fault Refusal := runMicro (Micro.aluR .add .l) s

/-- `ADD (HL)` (R280) -/
def execAddAtHl (s : State) : Host.Outcome State Fault Refusal := runMicro (Micro.aluHl .add) s

/-- `ADD A` (R280) -/
def execAddA (s : State) : Host.Outcome State Fault Refusal := runMicro (Micro.aluR .add .a) s

/-- `ADC B` (R281) -/
def execAdcB (s : State) : Host.Outcome State Fault Refusal := runMicro (Micro.aluR .adc .b) s

/-- `ADC C` (R281) -/
def execAdcC (s : State) : Host.Outcome State Fault Refusal := runMicro (Micro.aluR .adc .c) s

/-- `ADC D` (R281) -/
def execAdcD (s : State) : Host.Outcome State Fault Refusal := runMicro (Micro.aluR .adc .d) s

/-- `ADC E` (R281) -/
def execAdcE (s : State) : Host.Outcome State Fault Refusal := runMicro (Micro.aluR .adc .e) s

/-- `ADC H` (R281) -/
def execAdcH (s : State) : Host.Outcome State Fault Refusal := runMicro (Micro.aluR .adc .h) s

/-- `ADC L` (R281) -/
def execAdcL (s : State) : Host.Outcome State Fault Refusal := runMicro (Micro.aluR .adc .l) s

/-- `ADC (HL)` (R281) -/
def execAdcAtHl (s : State) : Host.Outcome State Fault Refusal := runMicro (Micro.aluHl .adc) s

/-- `ADC A` (R281) -/
def execAdcA (s : State) : Host.Outcome State Fault Refusal := runMicro (Micro.aluR .adc .a) s

/-- `SUB B` (R282) -/
def execSubB (s : State) : Host.Outcome State Fault Refusal := runMicro (Micro.aluR .sub .b) s

/-- `SUB C` (R282) -/
def execSubC (s : State) : Host.Outcome State Fault Refusal := runMicro (Micro.aluR .sub .c) s

/-- `SUB D` (R282) -/
def execSubD (s : State) : Host.Outcome State Fault Refusal := runMicro (Micro.aluR .sub .d) s

/-- `SUB E` (R282) -/
def execSubE (s : State) : Host.Outcome State Fault Refusal := runMicro (Micro.aluR .sub .e) s

/-- `SUB H` (R282) -/
def execSubH (s : State) : Host.Outcome State Fault Refusal := runMicro (Micro.aluR .sub .h) s

/-- `SUB L` (R282) -/
def execSubL (s : State) : Host.Outcome State Fault Refusal := runMicro (Micro.aluR .sub .l) s

/-- `SUB (HL)` (R282) -/
def execSubAtHl (s : State) : Host.Outcome State Fault Refusal := runMicro (Micro.aluHl .sub) s

/-- `SUB A` (R282) -/
def execSubA (s : State) : Host.Outcome State Fault Refusal := runMicro (Micro.aluR .sub .a) s

/-- `SBC B` (R283) -/
def execSbcB (s : State) : Host.Outcome State Fault Refusal := runMicro (Micro.aluR .sbc .b) s

/-- `SBC C` (R283) -/
def execSbcC (s : State) : Host.Outcome State Fault Refusal := runMicro (Micro.aluR .sbc .c) s

/-- `SBC D` (R283) -/
def execSbcD (s : State) : Host.Outcome State Fault Refusal := runMicro (Micro.aluR .sbc .d) s

/-- `SBC E` (R283) -/
def execSbcE (s : State) : Host.Outcome State Fault Refusal := runMicro (Micro.aluR .sbc .e) s

/-- `SBC H` (R283) -/
def execSbcH (s : State) : Host.Outcome State Fault Refusal := runMicro (Micro.aluR .sbc .h) s

/-- `SBC L` (R283) -/
def execSbcL (s : State) : Host.Outcome State Fault Refusal := runMicro (Micro.aluR .sbc .l) s

/-- `SBC (HL)` (R283) -/
def execSbcAtHl (s : State) : Host.Outcome State Fault Refusal := runMicro (Micro.aluHl .sbc) s

/-- `SBC A` (R283) -/
def execSbcA (s : State) : Host.Outcome State Fault Refusal := runMicro (Micro.aluR .sbc .a) s

/-- `AND B` (R284) -/
def execAndB (s : State) : Host.Outcome State Fault Refusal := runMicro (Micro.aluR .and .b) s

/-- `AND C` (R284) -/
def execAndC (s : State) : Host.Outcome State Fault Refusal := runMicro (Micro.aluR .and .c) s

/-- `AND D` (R284) -/
def execAndD (s : State) : Host.Outcome State Fault Refusal := runMicro (Micro.aluR .and .d) s

/-- `AND E` (R284) -/
def execAndE (s : State) : Host.Outcome State Fault Refusal := runMicro (Micro.aluR .and .e) s

/-- `AND H` (R284) -/
def execAndH (s : State) : Host.Outcome State Fault Refusal := runMicro (Micro.aluR .and .h) s

/-- `AND L` (R284) -/
def execAndL (s : State) : Host.Outcome State Fault Refusal := runMicro (Micro.aluR .and .l) s

/-- `AND (HL)` (R284) -/
def execAndAtHl (s : State) : Host.Outcome State Fault Refusal := runMicro (Micro.aluHl .and) s

/-- `AND A` (R284) -/
def execAndA (s : State) : Host.Outcome State Fault Refusal := runMicro (Micro.aluR .and .a) s

/-- `XOR B` (R285) -/
def execXorB (s : State) : Host.Outcome State Fault Refusal := runMicro (Micro.aluR .xor .b) s

/-- `XOR C` (R285) -/
def execXorC (s : State) : Host.Outcome State Fault Refusal := runMicro (Micro.aluR .xor .c) s

/-- `XOR D` (R285) -/
def execXorD (s : State) : Host.Outcome State Fault Refusal := runMicro (Micro.aluR .xor .d) s

/-- `XOR E` (R285) -/
def execXorE (s : State) : Host.Outcome State Fault Refusal := runMicro (Micro.aluR .xor .e) s

/-- `XOR H` (R285) -/
def execXorH (s : State) : Host.Outcome State Fault Refusal := runMicro (Micro.aluR .xor .h) s

/-- `XOR L` (R285) -/
def execXorL (s : State) : Host.Outcome State Fault Refusal := runMicro (Micro.aluR .xor .l) s

/-- `XOR (HL)` (R285) -/
def execXorAtHl (s : State) : Host.Outcome State Fault Refusal := runMicro (Micro.aluHl .xor) s

/-- `XOR A` (R285) -/
def execXorA (s : State) : Host.Outcome State Fault Refusal := runMicro (Micro.aluR .xor .a) s

/-- `OR B` (R286) -/
def execOrB (s : State) : Host.Outcome State Fault Refusal := runMicro (Micro.aluR .or .b) s

/-- `OR C` (R286) -/
def execOrC (s : State) : Host.Outcome State Fault Refusal := runMicro (Micro.aluR .or .c) s

/-- `OR D` (R286) -/
def execOrD (s : State) : Host.Outcome State Fault Refusal := runMicro (Micro.aluR .or .d) s

/-- `OR E` (R286) -/
def execOrE (s : State) : Host.Outcome State Fault Refusal := runMicro (Micro.aluR .or .e) s

/-- `OR H` (R286) -/
def execOrH (s : State) : Host.Outcome State Fault Refusal := runMicro (Micro.aluR .or .h) s

/-- `OR L` (R286) -/
def execOrL (s : State) : Host.Outcome State Fault Refusal := runMicro (Micro.aluR .or .l) s

/-- `OR (HL)` (R286) -/
def execOrAtHl (s : State) : Host.Outcome State Fault Refusal := runMicro (Micro.aluHl .or) s

/-- `OR A` (R286) -/
def execOrA (s : State) : Host.Outcome State Fault Refusal := runMicro (Micro.aluR .or .a) s

/-- `CP B` (R287) -/
def execCpB (s : State) : Host.Outcome State Fault Refusal := runMicro (Micro.aluR .cp .b) s

/-- `CP C` (R287) -/
def execCpC (s : State) : Host.Outcome State Fault Refusal := runMicro (Micro.aluR .cp .c) s

/-- `CP D` (R287) -/
def execCpD (s : State) : Host.Outcome State Fault Refusal := runMicro (Micro.aluR .cp .d) s

/-- `CP E` (R287) -/
def execCpE (s : State) : Host.Outcome State Fault Refusal := runMicro (Micro.aluR .cp .e) s

/-- `CP H` (R287) -/
def execCpH (s : State) : Host.Outcome State Fault Refusal := runMicro (Micro.aluR .cp .h) s

/-- `CP L` (R287) -/
def execCpL (s : State) : Host.Outcome State Fault Refusal := runMicro (Micro.aluR .cp .l) s

/-- `CP (HL)` (R287) -/
def execCpAtHl (s : State) : Host.Outcome State Fault Refusal := runMicro (Micro.aluHl .cp) s

/-- `CP A` (R287) -/
def execCpA (s : State) : Host.Outcome State Fault Refusal := runMicro (Micro.aluR .cp .a) s

end Sys2Proof.Machine
end

