-- ==== Sys2Proof/Machine/Control.lean ====
section
/-! DEFINITION. The meanings of the jumps, calls and returns (spec/46_control_transfer.md R360 to R371):
first the micro-operation list of each form, as its rule gives it, then one definition per instruction. -/

namespace Sys2Proof.Machine

namespace Micro

/-- R360 -/
def jp (nn : Word) : List MicroOp := [.imm16 nn, .str .pc, .wait]

/-- R361 -/
def jpCc (cc : Cond) (nn : Word) : List MicroOp := [.imm16 nn, .ifCc cc, .str .pc, .wait]

/-- R362 -/
def jpHl : List MicroOp := [.ldr (.r16 .hl), .str .pc]

/-- R363 -/
def jr (e : Int) : List MicroOp := [.ldr .pc, .addRel (BitVec.ofInt 8 e), .wait, .str .pc]

/-- R364 -/
def jrCc (cc : Cond) (e : Int) : List MicroOp := [.ldr .pc, .ifCc cc, .addRel (BitVec.ofInt 8 e), .wait, .str .pc]

/-- R366 -/
def call (nn : Word) : List MicroOp := [.ldr .pc, .wait, .pushHi, .pushLo, .imm16 nn, .str .pc]

/-- R367 -/
def callCc (cc : Cond) (nn : Word) : List MicroOp :=
  [.ifCc cc, .wait, .ldr .pc, .pushHi, .pushLo, .imm16 nn, .str .pc]

/-- R368 -/
def ret : List MicroOp := [.popLo, .popHi, .fin, .str .pc]

/-- R369 -/
def retCc (cc : Cond) : List MicroOp := [.wait, .ifCc cc, .popLo, .popHi, .fin, .str .pc]

/-- R370 -/
def reti : List MicroOp := [.popLo, .popHi, .fin, .str .pc, .imeOn false]

/-- R371 -/
def rst (y : Fin 8) : List MicroOp :=
  [.ldr .pc, .pushHi, .pushLo, .fin, .const (BitVec.ofNat 16 (8 * y.val)), .str .pc]

end Micro

/-! ### One meaning per instruction -/

/-- `JR r8` (R363) -/
def execJrR8 (e : Int) (s : State) : Host.Outcome State Fault Refusal := runMicro (Micro.jr e) s

/-- `JR NZ,r8` (R364) -/
def execJrNzR8 (e : Int) (s : State) : Host.Outcome State Fault Refusal := runMicro (Micro.jrCc .nz e) s

/-- `JR Z,r8` (R364) -/
def execJrZR8 (e : Int) (s : State) : Host.Outcome State Fault Refusal := runMicro (Micro.jrCc .z e) s

/-- `JR NC,r8` (R364) -/
def execJrNcR8 (e : Int) (s : State) : Host.Outcome State Fault Refusal := runMicro (Micro.jrCc .nc e) s

/-- `JR C,r8` (R364) -/
def execJrCR8 (e : Int) (s : State) : Host.Outcome State Fault Refusal := runMicro (Micro.jrCc .c e) s

/-- `JP NZ,a16` (R361) -/
def execJpNzA16 (nn : Word) (s : State) : Host.Outcome State Fault Refusal := runMicro (Micro.jpCc .nz nn) s

/-- `JP a16` (R360) -/
def execJpA16 (nn : Word) (s : State) : Host.Outcome State Fault Refusal := runMicro (Micro.jp nn) s

/-- `CALL NZ,a16` (R367) -/
def execCallNzA16 (nn : Word) (s : State) : Host.Outcome State Fault Refusal := runMicro (Micro.callCc .nz nn) s

/-- `JP Z,a16` (R361) -/
def execJpZA16 (nn : Word) (s : State) : Host.Outcome State Fault Refusal := runMicro (Micro.jpCc .z nn) s

/-- `CALL Z,a16` (R367) -/
def execCallZA16 (nn : Word) (s : State) : Host.Outcome State Fault Refusal := runMicro (Micro.callCc .z nn) s

/-- `CALL a16` (R366) -/
def execCallA16 (nn : Word) (s : State) : Host.Outcome State Fault Refusal := runMicro (Micro.call nn) s

/-- `JP NC,a16` (R361) -/
def execJpNcA16 (nn : Word) (s : State) : Host.Outcome State Fault Refusal := runMicro (Micro.jpCc .nc nn) s

/-- `CALL NC,a16` (R367) -/
def execCallNcA16 (nn : Word) (s : State) : Host.Outcome State Fault Refusal := runMicro (Micro.callCc .nc nn) s

/-- `JP C,a16` (R361) -/
def execJpCA16 (nn : Word) (s : State) : Host.Outcome State Fault Refusal := runMicro (Micro.jpCc .c nn) s

/-- `CALL C,a16` (R367) -/
def execCallCA16 (nn : Word) (s : State) : Host.Outcome State Fault Refusal := runMicro (Micro.callCc .c nn) s

/-- `RET NZ` (R369) -/
def execRetNz (s : State) : Host.Outcome State Fault Refusal := runMicro (Micro.retCc .nz) s

/-- `RST 00H` (R371) -/
def execRst00 (s : State) : Host.Outcome State Fault Refusal := runMicro (Micro.rst 0) s

/-- `RET Z` (R369) -/
def execRetZ (s : State) : Host.Outcome State Fault Refusal := runMicro (Micro.retCc .z) s

/-- `RET` (R368) -/
def execRet (s : State) : Host.Outcome State Fault Refusal := runMicro Micro.ret s

/-- `RST 08H` (R371) -/
def execRst08 (s : State) : Host.Outcome State Fault Refusal := runMicro (Micro.rst 1) s

/-- `RET NC` (R369) -/
def execRetNc (s : State) : Host.Outcome State Fault Refusal := runMicro (Micro.retCc .nc) s

/-- `RST 10H` (R371) -/
def execRst10 (s : State) : Host.Outcome State Fault Refusal := runMicro (Micro.rst 2) s

/-- `RET C` (R369) -/
def execRetC (s : State) : Host.Outcome State Fault Refusal := runMicro (Micro.retCc .c) s

/-- `RETI` (R370) -/
def execReti (s : State) : Host.Outcome State Fault Refusal := runMicro Micro.reti s

/-- `RST 18H` (R371) -/
def execRst18 (s : State) : Host.Outcome State Fault Refusal := runMicro (Micro.rst 3) s

/-- `RST 20H` (R371) -/
def execRst20 (s : State) : Host.Outcome State Fault Refusal := runMicro (Micro.rst 4) s

/-- `JP (HL)` (R362) -/
def execJpAtHl (s : State) : Host.Outcome State Fault Refusal := runMicro Micro.jpHl s

/-- `RST 28H` (R371) -/
def execRst28 (s : State) : Host.Outcome State Fault Refusal := runMicro (Micro.rst 5) s

/-- `RST 30H` (R371) -/
def execRst30 (s : State) : Host.Outcome State Fault Refusal := runMicro (Micro.rst 6) s

/-- `RST 38H` (R371) -/
def execRst38 (s : State) : Host.Outcome State Fault Refusal := runMicro (Micro.rst 7) s

end Sys2Proof.Machine
end

