-- ==== Sys2Proof/Machine/Load16.lean ====
section
/-! DEFINITION. The meanings of the 16-bit loads and the stack (spec/42_load16_stack.md R260 to R266):
first the micro-operation list of each form, as its rule gives it, then one definition per instruction. -/

namespace Sys2Proof.Machine

namespace Micro

/-- R260 -/
def ldRrD16 (rr : Reg16) (nn : Word) : List MicroOp := [.imm16 nn, .str (.r16 rr)]

/-- R261 -/
def ldA16Sp (nn : Word) : List MicroOp := [.ldr (.r16 .sp), .wr16Lo nn, .wr16Hi nn]

/-- R262 -/
def ldSpHl : List MicroOp := [.ldr (.r16 .hl), .str (.r16 .sp), .wait]

/-- R263 -/
def ldHlSpR8 (e : Int) : List MicroOp := [.ldr (.r16 .sp), .addSp (BitVec.ofInt 8 e), .wait, .str (.r16 .hl)]

/-- R264 -/
def push (rr : StackReg) : List MicroOp := [.wait, .ldr (.stk rr), .pushHi, .pushLo]

/-- R265, R266 -/
def pop (rr : StackReg) : List MicroOp := [.popLo, .popHi, .str (.stk rr)]

end Micro

/-! ### One meaning per instruction -/

/-- `LD BC,d16` (R260) -/
def execLdBcD16 (nn : Word) (s : State) : Host.Outcome State Fault Refusal := runMicro (Micro.ldRrD16 .bc nn) s

/-- `LD (a16),SP` (R261) -/
def execLdAtA16Sp (nn : Word) (s : State) : Host.Outcome State Fault Refusal := runMicro (Micro.ldA16Sp nn) s

/-- `LD DE,d16` (R260) -/
def execLdDeD16 (nn : Word) (s : State) : Host.Outcome State Fault Refusal := runMicro (Micro.ldRrD16 .de nn) s

/-- `LD HL,d16` (R260) -/
def execLdHlD16 (nn : Word) (s : State) : Host.Outcome State Fault Refusal := runMicro (Micro.ldRrD16 .hl nn) s

/-- `LD SP,d16` (R260) -/
def execLdSpD16 (nn : Word) (s : State) : Host.Outcome State Fault Refusal := runMicro (Micro.ldRrD16 .sp nn) s

/-- `LD HL,SP+r8` (R263) -/
def execLdHlSpR8 (e : Int) (s : State) : Host.Outcome State Fault Refusal := runMicro (Micro.ldHlSpR8 e) s

/-- `POP BC` (R265) -/
def execPopBc (s : State) : Host.Outcome State Fault Refusal := runMicro (Micro.pop .bc) s

/-- `PUSH BC` (R264) -/
def execPushBc (s : State) : Host.Outcome State Fault Refusal := runMicro (Micro.push .bc) s

/-- `POP DE` (R265) -/
def execPopDe (s : State) : Host.Outcome State Fault Refusal := runMicro (Micro.pop .de) s

/-- `PUSH DE` (R264) -/
def execPushDe (s : State) : Host.Outcome State Fault Refusal := runMicro (Micro.push .de) s

/-- `POP HL` (R265) -/
def execPopHl (s : State) : Host.Outcome State Fault Refusal := runMicro (Micro.pop .hl) s

/-- `PUSH HL` (R264) -/
def execPushHl (s : State) : Host.Outcome State Fault Refusal := runMicro (Micro.push .hl) s

/-- `POP AF` (R266) -/
def execPopAf (s : State) : Host.Outcome State Fault Refusal := runMicro (Micro.pop .af) s

/-- `PUSH AF` (R264) -/
def execPushAf (s : State) : Host.Outcome State Fault Refusal := runMicro (Micro.push .af) s

/-- `LD SP,HL` (R262) -/
def execLdSpHl (s : State) : Host.Outcome State Fault Refusal := runMicro Micro.ldSpHl s

end Sys2Proof.Machine
end

