-- ==== Sys2Proof/Machine/Load8.lean ====
section
/-! DEFINITION. The meanings of the 8-bit loads (spec/41_load8.md R230 to R246):
first the micro-operation list of each form, as its rule gives it, then one definition per instruction. -/

namespace Sys2Proof.Machine

namespace Micro

/-- R230 -/
def ldRR (dst src : Reg8) : List MicroOp := [.ldr (.r8 src), .str (.r8 dst)]

/-- R231 -/
def ldRD8 (dst : Reg8) (n : Byte) : List MicroOp := [.imm8 n, .str (.r8 dst)]

/-- R232 -/
def ldRHl (dst : Reg8) : List MicroOp := [.rd .hl, .str (.r8 dst)]

/-- R233 -/
def ldHlR (src : Reg8) : List MicroOp := [.ldr (.r8 src), .wr .hl]

/-- R234 -/
def ldHlD8 (n : Byte) : List MicroOp := [.imm8 n, .wr .hl]

/-- R235 -/
def ldABc : List MicroOp := [.rd .bc, .str (.r8 .a)]

/-- R235 -/
def ldADe : List MicroOp := [.rd .de, .str (.r8 .a)]

/-- R236 -/
def ldBcA : List MicroOp := [.ldr (.r8 .a), .wr .bc]

/-- R236 -/
def ldDeA : List MicroOp := [.ldr (.r8 .a), .wr .de]

/-- R237 -/
def ldAA16 (nn : Word) : List MicroOp := [.rd (.a16 nn), .str (.r8 .a)]

/-- R238 -/
def ldA16A (nn : Word) : List MicroOp := [.ldr (.r8 .a), .wr (.a16 nn)]

/-- R239 -/
def ldhAA8 (n : Byte) : List MicroOp := [.rd (.a8 n), .str (.r8 .a)]

/-- R240 -/
def ldhA8A (n : Byte) : List MicroOp := [.ldr (.r8 .a), .wr (.a8 n)]

/-- R241 -/
def ldACMem : List MicroOp := [.rd .c, .str (.r8 .a)]

/-- R242 -/
def ldCMemA : List MicroOp := [.ldr (.r8 .a), .wr .c]

/-- R243 -/
def ldHlIncA : List MicroOp := [.ldr (.r8 .a), .wr .hl, .hlInc]

/-- R244 -/
def ldHlDecA : List MicroOp := [.ldr (.r8 .a), .wr .hl, .hlDec]

/-- R245 -/
def ldAHlInc : List MicroOp := [.rd .hl, .str (.r8 .a), .hlInc]

/-- R246 -/
def ldAHlDec : List MicroOp := [.rd .hl, .str (.r8 .a), .hlDec]

end Micro

/-! ### One meaning per instruction -/

/-- `LD B,d8` (R231) -/
def execLdBD8 (n : Byte) (s : State) : Host.Outcome State Fault Refusal := runMicro (Micro.ldRD8 .b n) s

/-- `LD C,d8` (R231) -/
def execLdCD8 (n : Byte) (s : State) : Host.Outcome State Fault Refusal := runMicro (Micro.ldRD8 .c n) s

/-- `LD D,d8` (R231) -/
def execLdDD8 (n : Byte) (s : State) : Host.Outcome State Fault Refusal := runMicro (Micro.ldRD8 .d n) s

/-- `LD E,d8` (R231) -/
def execLdED8 (n : Byte) (s : State) : Host.Outcome State Fault Refusal := runMicro (Micro.ldRD8 .e n) s

/-- `LD H,d8` (R231) -/
def execLdHD8 (n : Byte) (s : State) : Host.Outcome State Fault Refusal := runMicro (Micro.ldRD8 .h n) s

/-- `LD L,d8` (R231) -/
def execLdLD8 (n : Byte) (s : State) : Host.Outcome State Fault Refusal := runMicro (Micro.ldRD8 .l n) s

/-- `LD (HL),d8` (R234) -/
def execLdAtHlD8 (n : Byte) (s : State) : Host.Outcome State Fault Refusal := runMicro (Micro.ldHlD8 n) s

/-- `LD A,d8` (R231) -/
def execLdAD8 (n : Byte) (s : State) : Host.Outcome State Fault Refusal := runMicro (Micro.ldRD8 .a n) s

/-- `LDH (a8),A` (R240) -/
def execLdhAtA8A (n : Byte) (s : State) : Host.Outcome State Fault Refusal := runMicro (Micro.ldhA8A n) s

/-- `LD (a16),A` (R238) -/
def execLdAtA16A (nn : Word) (s : State) : Host.Outcome State Fault Refusal := runMicro (Micro.ldA16A nn) s

/-- `LDH A,(a8)` (R239) -/
def execLdhAAtA8 (n : Byte) (s : State) : Host.Outcome State Fault Refusal := runMicro (Micro.ldhAA8 n) s

/-- `LD A,(a16)` (R237) -/
def execLdAAtA16 (nn : Word) (s : State) : Host.Outcome State Fault Refusal := runMicro (Micro.ldAA16 nn) s

/-- `LD (BC),A` (R236) -/
def execLdAtBcA (s : State) : Host.Outcome State Fault Refusal := runMicro Micro.ldBcA s

/-- `LD A,(BC)` (R235) -/
def execLdAAtBc (s : State) : Host.Outcome State Fault Refusal := runMicro Micro.ldABc s

/-- `LD (DE),A` (R236) -/
def execLdAtDeA (s : State) : Host.Outcome State Fault Refusal := runMicro Micro.ldDeA s

/-- `LD A,(DE)` (R235) -/
def execLdAAtDe (s : State) : Host.Outcome State Fault Refusal := runMicro Micro.ldADe s

/-- `LD (HL+),A` (R243) -/
def execLdAtHlIncA (s : State) : Host.Outcome State Fault Refusal := runMicro Micro.ldHlIncA s

/-- `LD A,(HL+)` (R245) -/
def execLdAAtHlInc (s : State) : Host.Outcome State Fault Refusal := runMicro Micro.ldAHlInc s

/-- `LD (HL-),A` (R244) -/
def execLdAtHlDecA (s : State) : Host.Outcome State Fault Refusal := runMicro Micro.ldHlDecA s

/-- `LD A,(HL-)` (R246) -/
def execLdAAtHlDec (s : State) : Host.Outcome State Fault Refusal := runMicro Micro.ldAHlDec s

/-- `LD B,B` (R230) -/
def execLdBB (s : State) : Host.Outcome State Fault Refusal := runMicro (Micro.ldRR .b .b) s

/-- `LD B,C` (R230) -/
def execLdBC (s : State) : Host.Outcome State Fault Refusal := runMicro (Micro.ldRR .b .c) s

/-- `LD B,D` (R230) -/
def execLdBD (s : State) : Host.Outcome State Fault Refusal := runMicro (Micro.ldRR .b .d) s

/-- `LD B,E` (R230) -/
def execLdBE (s : State) : Host.Outcome State Fault Refusal := runMicro (Micro.ldRR .b .e) s

/-- `LD B,H` (R230) -/
def execLdBH (s : State) : Host.Outcome State Fault Refusal := runMicro (Micro.ldRR .b .h) s

/-- `LD B,L` (R230) -/
def execLdBL (s : State) : Host.Outcome State Fault Refusal := runMicro (Micro.ldRR .b .l) s

/-- `LD B,(HL)` (R232) -/
def execLdBAtHl (s : State) : Host.Outcome State Fault Refusal := runMicro (Micro.ldRHl .b) s

/-- `LD B,A` (R230) -/
def execLdBA (s : State) : Host.Outcome State Fault Refusal := runMicro (Micro.ldRR .b .a) s

/-- `LD C,B` (R230) -/
def execLdCB (s : State) : Host.Outcome State Fault Refusal := runMicro (Micro.ldRR .c .b) s

/-- `LD C,C` (R230) -/
def execLdCC (s : State) : Host.Outcome State Fault Refusal := runMicro (Micro.ldRR .c .c) s

/-- `LD C,D` (R230) -/
def execLdCD (s : State) : Host.Outcome State Fault Refusal := runMicro (Micro.ldRR .c .d) s

/-- `LD C,E` (R230) -/
def execLdCE (s : State) : Host.Outcome State Fault Refusal := runMicro (Micro.ldRR .c .e) s

/-- `LD C,H` (R230) -/
def execLdCH (s : State) : Host.Outcome State Fault Refusal := runMicro (Micro.ldRR .c .h) s

/-- `LD C,L` (R230) -/
def execLdCL (s : State) : Host.Outcome State Fault Refusal := runMicro (Micro.ldRR .c .l) s

/-- `LD C,(HL)` (R232) -/
def execLdCAtHl (s : State) : Host.Outcome State Fault Refusal := runMicro (Micro.ldRHl .c) s

/-- `LD C,A` (R230) -/
def execLdCA (s : State) : Host.Outcome State Fault Refusal := runMicro (Micro.ldRR .c .a) s

/-- `LD D,B` (R230) -/
def execLdDB (s : State) : Host.Outcome State Fault Refusal := runMicro (Micro.ldRR .d .b) s

/-- `LD D,C` (R230) -/
def execLdDC (s : State) : Host.Outcome State Fault Refusal := runMicro (Micro.ldRR .d .c) s

/-- `LD D,D` (R230) -/
def execLdDD (s : State) : Host.Outcome State Fault Refusal := runMicro (Micro.ldRR .d .d) s

/-- `LD D,E` (R230) -/
def execLdDE (s : State) : Host.Outcome State Fault Refusal := runMicro (Micro.ldRR .d .e) s

/-- `LD D,H` (R230) -/
def execLdDH (s : State) : Host.Outcome State Fault Refusal := runMicro (Micro.ldRR .d .h) s

/-- `LD D,L` (R230) -/
def execLdDL (s : State) : Host.Outcome State Fault Refusal := runMicro (Micro.ldRR .d .l) s

/-- `LD D,(HL)` (R232) -/
def execLdDAtHl (s : State) : Host.Outcome State Fault Refusal := runMicro (Micro.ldRHl .d) s

/-- `LD D,A` (R230) -/
def execLdDA (s : State) : Host.Outcome State Fault Refusal := runMicro (Micro.ldRR .d .a) s

/-- `LD E,B` (R230) -/
def execLdEB (s : State) : Host.Outcome State Fault Refusal := runMicro (Micro.ldRR .e .b) s

/-- `LD E,C` (R230) -/
def execLdEC (s : State) : Host.Outcome State Fault Refusal := runMicro (Micro.ldRR .e .c) s

/-- `LD E,D` (R230) -/
def execLdED (s : State) : Host.Outcome State Fault Refusal := runMicro (Micro.ldRR .e .d) s

/-- `LD E,E` (R230) -/
def execLdEE (s : State) : Host.Outcome State Fault Refusal := runMicro (Micro.ldRR .e .e) s

/-- `LD E,H` (R230) -/
def execLdEH (s : State) : Host.Outcome State Fault Refusal := runMicro (Micro.ldRR .e .h) s

/-- `LD E,L` (R230) -/
def execLdEL (s : State) : Host.Outcome State Fault Refusal := runMicro (Micro.ldRR .e .l) s

/-- `LD E,(HL)` (R232) -/
def execLdEAtHl (s : State) : Host.Outcome State Fault Refusal := runMicro (Micro.ldRHl .e) s

/-- `LD E,A` (R230) -/
def execLdEA (s : State) : Host.Outcome State Fault Refusal := runMicro (Micro.ldRR .e .a) s

/-- `LD H,B` (R230) -/
def execLdHB (s : State) : Host.Outcome State Fault Refusal := runMicro (Micro.ldRR .h .b) s

/-- `LD H,C` (R230) -/
def execLdHC (s : State) : Host.Outcome State Fault Refusal := runMicro (Micro.ldRR .h .c) s

/-- `LD H,D` (R230) -/
def execLdHD (s : State) : Host.Outcome State Fault Refusal := runMicro (Micro.ldRR .h .d) s

/-- `LD H,E` (R230) -/
def execLdHE (s : State) : Host.Outcome State Fault Refusal := runMicro (Micro.ldRR .h .e) s

/-- `LD H,H` (R230) -/
def execLdHH (s : State) : Host.Outcome State Fault Refusal := runMicro (Micro.ldRR .h .h) s

/-- `LD H,L` (R230) -/
def execLdHL (s : State) : Host.Outcome State Fault Refusal := runMicro (Micro.ldRR .h .l) s

/-- `LD H,(HL)` (R232) -/
def execLdHAtHl (s : State) : Host.Outcome State Fault Refusal := runMicro (Micro.ldRHl .h) s

/-- `LD H,A` (R230) -/
def execLdHA (s : State) : Host.Outcome State Fault Refusal := runMicro (Micro.ldRR .h .a) s

/-- `LD L,B` (R230) -/
def execLdLB (s : State) : Host.Outcome State Fault Refusal := runMicro (Micro.ldRR .l .b) s

/-- `LD L,C` (R230) -/
def execLdLC (s : State) : Host.Outcome State Fault Refusal := runMicro (Micro.ldRR .l .c) s

/-- `LD L,D` (R230) -/
def execLdLD (s : State) : Host.Outcome State Fault Refusal := runMicro (Micro.ldRR .l .d) s

/-- `LD L,E` (R230) -/
def execLdLE (s : State) : Host.Outcome State Fault Refusal := runMicro (Micro.ldRR .l .e) s

/-- `LD L,H` (R230) -/
def execLdLH (s : State) : Host.Outcome State Fault Refusal := runMicro (Micro.ldRR .l .h) s

/-- `LD L,L` (R230) -/
def execLdLL (s : State) : Host.Outcome State Fault Refusal := runMicro (Micro.ldRR .l .l) s

/-- `LD L,(HL)` (R232) -/
def execLdLAtHl (s : State) : Host.Outcome State Fault Refusal := runMicro (Micro.ldRHl .l) s

/-- `LD L,A` (R230) -/
def execLdLA (s : State) : Host.Outcome State Fault Refusal := runMicro (Micro.ldRR .l .a) s

/-- `LD (HL),B` (R233) -/
def execLdAtHlB (s : State) : Host.Outcome State Fault Refusal := runMicro (Micro.ldHlR .b) s

/-- `LD (HL),C` (R233) -/
def execLdAtHlC (s : State) : Host.Outcome State Fault Refusal := runMicro (Micro.ldHlR .c) s

/-- `LD (HL),D` (R233) -/
def execLdAtHlD (s : State) : Host.Outcome State Fault Refusal := runMicro (Micro.ldHlR .d) s

/-- `LD (HL),E` (R233) -/
def execLdAtHlE (s : State) : Host.Outcome State Fault Refusal := runMicro (Micro.ldHlR .e) s

/-- `LD (HL),H` (R233) -/
def execLdAtHlH (s : State) : Host.Outcome State Fault Refusal := runMicro (Micro.ldHlR .h) s

/-- `LD (HL),L` (R233) -/
def execLdAtHlL (s : State) : Host.Outcome State Fault Refusal := runMicro (Micro.ldHlR .l) s

/-- `LD (HL),A` (R233) -/
def execLdAtHlA (s : State) : Host.Outcome State Fault Refusal := runMicro (Micro.ldHlR .a) s

/-- `LD A,B` (R230) -/
def execLdAB (s : State) : Host.Outcome State Fault Refusal := runMicro (Micro.ldRR .a .b) s

/-- `LD A,C` (R230) -/
def execLdAC (s : State) : Host.Outcome State Fault Refusal := runMicro (Micro.ldRR .a .c) s

/-- `LD A,D` (R230) -/
def execLdAD (s : State) : Host.Outcome State Fault Refusal := runMicro (Micro.ldRR .a .d) s

/-- `LD A,E` (R230) -/
def execLdAE (s : State) : Host.Outcome State Fault Refusal := runMicro (Micro.ldRR .a .e) s

/-- `LD A,H` (R230) -/
def execLdAH (s : State) : Host.Outcome State Fault Refusal := runMicro (Micro.ldRR .a .h) s

/-- `LD A,L` (R230) -/
def execLdAL (s : State) : Host.Outcome State Fault Refusal := runMicro (Micro.ldRR .a .l) s

/-- `LD A,(HL)` (R232) -/
def execLdAAtHl (s : State) : Host.Outcome State Fault Refusal := runMicro (Micro.ldRHl .a) s

/-- `LD A,A` (R230) -/
def execLdAA (s : State) : Host.Outcome State Fault Refusal := runMicro (Micro.ldRR .a .a) s

/-- `LD (C),A` (R242) -/
def execLdAtCA (s : State) : Host.Outcome State Fault Refusal := runMicro Micro.ldCMemA s

/-- `LD A,(C)` (R241) -/
def execLdAAtC (s : State) : Host.Outcome State Fault Refusal := runMicro Micro.ldACMem s

end Sys2Proof.Machine
end

