-- ==== Sys2Proof/Machine/Rotate.lean ====
section
/-! DEFINITION. The meanings of the rotates, shifts and bit instructions (spec/45_rotate_shift_bit.md R330 to R345):
first the micro-operation list of each form, as its rule gives it, then one definition per instruction. -/

namespace Sys2Proof.Machine

namespace Micro

/-- R330 -/
def rlca : List MicroOp := [.ldr (.r8 .a), .alu1 (.shift .rlc), .clrz, .str (.r8 .a)]

/-- R331 -/
def rrca : List MicroOp := [.ldr (.r8 .a), .alu1 (.shift .rrc), .clrz, .str (.r8 .a)]

/-- R332 -/
def rla : List MicroOp := [.ldr (.r8 .a), .alu1 (.shift .rl), .clrz, .str (.r8 .a)]

/-- R333 -/
def rra : List MicroOp := [.ldr (.r8 .a), .alu1 (.shift .rr), .clrz, .str (.r8 .a)]

/-- R345, R334 to R341 -/
def shiftR (op : ShiftOp) (r : Reg8) : List MicroOp := [.ldr (.r8 r), .alu1 (.shift op), .str (.r8 r)]

/-- R345, R334 to R341 -/
def shiftHl (op : ShiftOp) : List MicroOp := [.rd .hl, .alu1 (.shift op), .wr .hl]

/-- R345, R342 -/
def bitR (k : Fin 8) (r : Reg8) : List MicroOp := [.ldr (.r8 r), .bit k]

/-- R345, R342 -/
def bitHl (k : Fin 8) : List MicroOp := [.bitHl k]

/-- R345, R343 -/
def resR (k : Fin 8) (r : Reg8) : List MicroOp := [.ldr (.r8 r), .res k, .str (.r8 r)]

/-- R345, R343 -/
def resHl (k : Fin 8) : List MicroOp := [.rd .hl, .res k, .wr .hl]

/-- R345, R344 -/
def setR (k : Fin 8) (r : Reg8) : List MicroOp := [.ldr (.r8 r), .set k, .str (.r8 r)]

/-- R345, R344 -/
def setHl (k : Fin 8) : List MicroOp := [.rd .hl, .set k, .wr .hl]

end Micro

/-! ### One meaning per instruction -/

/-- `RLCA` (R330) -/
def execRlca (s : State) : Host.Outcome State Fault Refusal := runMicro Micro.rlca s

/-- `RRCA` (R331) -/
def execRrca (s : State) : Host.Outcome State Fault Refusal := runMicro Micro.rrca s

/-- `RLA` (R332) -/
def execRla (s : State) : Host.Outcome State Fault Refusal := runMicro Micro.rla s

/-- `RRA` (R333) -/
def execRra (s : State) : Host.Outcome State Fault Refusal := runMicro Micro.rra s

/-- `RLC B` (R334) -/
def execRlcB (s : State) : Host.Outcome State Fault Refusal := runMicro (Micro.shiftR .rlc .b) s

/-- `RLC C` (R334) -/
def execRlcC (s : State) : Host.Outcome State Fault Refusal := runMicro (Micro.shiftR .rlc .c) s

/-- `RLC D` (R334) -/
def execRlcD (s : State) : Host.Outcome State Fault Refusal := runMicro (Micro.shiftR .rlc .d) s

/-- `RLC E` (R334) -/
def execRlcE (s : State) : Host.Outcome State Fault Refusal := runMicro (Micro.shiftR .rlc .e) s

/-- `RLC H` (R334) -/
def execRlcH (s : State) : Host.Outcome State Fault Refusal := runMicro (Micro.shiftR .rlc .h) s

/-- `RLC L` (R334) -/
def execRlcL (s : State) : Host.Outcome State Fault Refusal := runMicro (Micro.shiftR .rlc .l) s

/-- `RLC (HL)` (R334) -/
def execRlcAtHl (s : State) : Host.Outcome State Fault Refusal := runMicro (Micro.shiftHl .rlc) s

/-- `RLC A` (R334) -/
def execRlcA (s : State) : Host.Outcome State Fault Refusal := runMicro (Micro.shiftR .rlc .a) s

/-- `RRC B` (R335) -/
def execRrcB (s : State) : Host.Outcome State Fault Refusal := runMicro (Micro.shiftR .rrc .b) s

/-- `RRC C` (R335) -/
def execRrcC (s : State) : Host.Outcome State Fault Refusal := runMicro (Micro.shiftR .rrc .c) s

/-- `RRC D` (R335) -/
def execRrcD (s : State) : Host.Outcome State Fault Refusal := runMicro (Micro.shiftR .rrc .d) s

/-- `RRC E` (R335) -/
def execRrcE (s : State) : Host.Outcome State Fault Refusal := runMicro (Micro.shiftR .rrc .e) s

/-- `RRC H` (R335) -/
def execRrcH (s : State) : Host.Outcome State Fault Refusal := runMicro (Micro.shiftR .rrc .h) s

/-- `RRC L` (R335) -/
def execRrcL (s : State) : Host.Outcome State Fault Refusal := runMicro (Micro.shiftR .rrc .l) s

/-- `RRC (HL)` (R335) -/
def execRrcAtHl (s : State) : Host.Outcome State Fault Refusal := runMicro (Micro.shiftHl .rrc) s

/-- `RRC A` (R335) -/
def execRrcA (s : State) : Host.Outcome State Fault Refusal := runMicro (Micro.shiftR .rrc .a) s

/-- `RL B` (R336) -/
def execRlB (s : State) : Host.Outcome State Fault Refusal := runMicro (Micro.shiftR .rl .b) s

/-- `RL C` (R336) -/
def execRlC (s : State) : Host.Outcome State Fault Refusal := runMicro (Micro.shiftR .rl .c) s

/-- `RL D` (R336) -/
def execRlD (s : State) : Host.Outcome State Fault Refusal := runMicro (Micro.shiftR .rl .d) s

/-- `RL E` (R336) -/
def execRlE (s : State) : Host.Outcome State Fault Refusal := runMicro (Micro.shiftR .rl .e) s

/-- `RL H` (R336) -/
def execRlH (s : State) : Host.Outcome State Fault Refusal := runMicro (Micro.shiftR .rl .h) s

/-- `RL L` (R336) -/
def execRlL (s : State) : Host.Outcome State Fault Refusal := runMicro (Micro.shiftR .rl .l) s

/-- `RL (HL)` (R336) -/
def execRlAtHl (s : State) : Host.Outcome State Fault Refusal := runMicro (Micro.shiftHl .rl) s

/-- `RL A` (R336) -/
def execRlA (s : State) : Host.Outcome State Fault Refusal := runMicro (Micro.shiftR .rl .a) s

/-- `RR B` (R337) -/
def execRrB (s : State) : Host.Outcome State Fault Refusal := runMicro (Micro.shiftR .rr .b) s

/-- `RR C` (R337) -/
def execRrC (s : State) : Host.Outcome State Fault Refusal := runMicro (Micro.shiftR .rr .c) s

/-- `RR D` (R337) -/
def execRrD (s : State) : Host.Outcome State Fault Refusal := runMicro (Micro.shiftR .rr .d) s

/-- `RR E` (R337) -/
def execRrE (s : State) : Host.Outcome State Fault Refusal := runMicro (Micro.shiftR .rr .e) s

/-- `RR H` (R337) -/
def execRrH (s : State) : Host.Outcome State Fault Refusal := runMicro (Micro.shiftR .rr .h) s

/-- `RR L` (R337) -/
def execRrL (s : State) : Host.Outcome State Fault Refusal := runMicro (Micro.shiftR .rr .l) s

/-- `RR (HL)` (R337) -/
def execRrAtHl (s : State) : Host.Outcome State Fault Refusal := runMicro (Micro.shiftHl .rr) s

/-- `RR A` (R337) -/
def execRrA (s : State) : Host.Outcome State Fault Refusal := runMicro (Micro.shiftR .rr .a) s

/-- `SLA B` (R338) -/
def execSlaB (s : State) : Host.Outcome State Fault Refusal := runMicro (Micro.shiftR .sla .b) s

/-- `SLA C` (R338) -/
def execSlaC (s : State) : Host.Outcome State Fault Refusal := runMicro (Micro.shiftR .sla .c) s

/-- `SLA D` (R338) -/
def execSlaD (s : State) : Host.Outcome State Fault Refusal := runMicro (Micro.shiftR .sla .d) s

/-- `SLA E` (R338) -/
def execSlaE (s : State) : Host.Outcome State Fault Refusal := runMicro (Micro.shiftR .sla .e) s

/-- `SLA H` (R338) -/
def execSlaH (s : State) : Host.Outcome State Fault Refusal := runMicro (Micro.shiftR .sla .h) s

/-- `SLA L` (R338) -/
def execSlaL (s : State) : Host.Outcome State Fault Refusal := runMicro (Micro.shiftR .sla .l) s

/-- `SLA (HL)` (R338) -/
def execSlaAtHl (s : State) : Host.Outcome State Fault Refusal := runMicro (Micro.shiftHl .sla) s

/-- `SLA A` (R338) -/
def execSlaA (s : State) : Host.Outcome State Fault Refusal := runMicro (Micro.shiftR .sla .a) s

/-- `SRA B` (R339) -/
def execSraB (s : State) : Host.Outcome State Fault Refusal := runMicro (Micro.shiftR .sra .b) s

/-- `SRA C` (R339) -/
def execSraC (s : State) : Host.Outcome State Fault Refusal := runMicro (Micro.shiftR .sra .c) s

/-- `SRA D` (R339) -/
def execSraD (s : State) : Host.Outcome State Fault Refusal := runMicro (Micro.shiftR .sra .d) s

/-- `SRA E` (R339) -/
def execSraE (s : State) : Host.Outcome State Fault Refusal := runMicro (Micro.shiftR .sra .e) s

/-- `SRA H` (R339) -/
def execSraH (s : State) : Host.Outcome State Fault Refusal := runMicro (Micro.shiftR .sra .h) s

/-- `SRA L` (R339) -/
def execSraL (s : State) : Host.Outcome State Fault Refusal := runMicro (Micro.shiftR .sra .l) s

/-- `SRA (HL)` (R339) -/
def execSraAtHl (s : State) : Host.Outcome State Fault Refusal := runMicro (Micro.shiftHl .sra) s

/-- `SRA A` (R339) -/
def execSraA (s : State) : Host.Outcome State Fault Refusal := runMicro (Micro.shiftR .sra .a) s

/-- `SWAP B` (R340) -/
def execSwapB (s : State) : Host.Outcome State Fault Refusal := runMicro (Micro.shiftR .swap .b) s

/-- `SWAP C` (R340) -/
def execSwapC (s : State) : Host.Outcome State Fault Refusal := runMicro (Micro.shiftR .swap .c) s

/-- `SWAP D` (R340) -/
def execSwapD (s : State) : Host.Outcome State Fault Refusal := runMicro (Micro.shiftR .swap .d) s

/-- `SWAP E` (R340) -/
def execSwapE (s : State) : Host.Outcome State Fault Refusal := runMicro (Micro.shiftR .swap .e) s

/-- `SWAP H` (R340) -/
def execSwapH (s : State) : Host.Outcome State Fault Refusal := runMicro (Micro.shiftR .swap .h) s

/-- `SWAP L` (R340) -/
def execSwapL (s : State) : Host.Outcome State Fault Refusal := runMicro (Micro.shiftR .swap .l) s

/-- `SWAP (HL)` (R340) -/
def execSwapAtHl (s : State) : Host.Outcome State Fault Refusal := runMicro (Micro.shiftHl .swap) s

/-- `SWAP A` (R340) -/
def execSwapA (s : State) : Host.Outcome State Fault Refusal := runMicro (Micro.shiftR .swap .a) s

/-- `SRL B` (R341) -/
def execSrlB (s : State) : Host.Outcome State Fault Refusal := runMicro (Micro.shiftR .srl .b) s

/-- `SRL C` (R341) -/
def execSrlC (s : State) : Host.Outcome State Fault Refusal := runMicro (Micro.shiftR .srl .c) s

/-- `SRL D` (R341) -/
def execSrlD (s : State) : Host.Outcome State Fault Refusal := runMicro (Micro.shiftR .srl .d) s

/-- `SRL E` (R341) -/
def execSrlE (s : State) : Host.Outcome State Fault Refusal := runMicro (Micro.shiftR .srl .e) s

/-- `SRL H` (R341) -/
def execSrlH (s : State) : Host.Outcome State Fault Refusal := runMicro (Micro.shiftR .srl .h) s

/-- `SRL L` (R341) -/
def execSrlL (s : State) : Host.Outcome State Fault Refusal := runMicro (Micro.shiftR .srl .l) s

/-- `SRL (HL)` (R341) -/
def execSrlAtHl (s : State) : Host.Outcome State Fault Refusal := runMicro (Micro.shiftHl .srl) s

/-- `SRL A` (R341) -/
def execSrlA (s : State) : Host.Outcome State Fault Refusal := runMicro (Micro.shiftR .srl .a) s

/-- `BIT 0,B` (R342) -/
def execBit0B (s : State) : Host.Outcome State Fault Refusal := runMicro (Micro.bitR 0 .b) s

/-- `BIT 0,C` (R342) -/
def execBit0C (s : State) : Host.Outcome State Fault Refusal := runMicro (Micro.bitR 0 .c) s

/-- `BIT 0,D` (R342) -/
def execBit0D (s : State) : Host.Outcome State Fault Refusal := runMicro (Micro.bitR 0 .d) s

/-- `BIT 0,E` (R342) -/
def execBit0E (s : State) : Host.Outcome State Fault Refusal := runMicro (Micro.bitR 0 .e) s

/-- `BIT 0,H` (R342) -/
def execBit0H (s : State) : Host.Outcome State Fault Refusal := runMicro (Micro.bitR 0 .h) s

/-- `BIT 0,L` (R342) -/
def execBit0L (s : State) : Host.Outcome State Fault Refusal := runMicro (Micro.bitR 0 .l) s

/-- `BIT 0,(HL)` (R342) -/
def execBit0AtHl (s : State) : Host.Outcome State Fault Refusal := runMicro (Micro.bitHl 0) s

/-- `BIT 0,A` (R342) -/
def execBit0A (s : State) : Host.Outcome State Fault Refusal := runMicro (Micro.bitR 0 .a) s

/-- `BIT 1,B` (R342) -/
def execBit1B (s : State) : Host.Outcome State Fault Refusal := runMicro (Micro.bitR 1 .b) s

/-- `BIT 1,C` (R342) -/
def execBit1C (s : State) : Host.Outcome State Fault Refusal := runMicro (Micro.bitR 1 .c) s

/-- `BIT 1,D` (R342) -/
def execBit1D (s : State) : Host.Outcome State Fault Refusal := runMicro (Micro.bitR 1 .d) s

/-- `BIT 1,E` (R342) -/
def execBit1E (s : State) : Host.Outcome State Fault Refusal := runMicro (Micro.bitR 1 .e) s

/-- `BIT 1,H` (R342) -/
def execBit1H (s : State) : Host.Outcome State Fault Refusal := runMicro (Micro.bitR 1 .h) s

/-- `BIT 1,L` (R342) -/
def execBit1L (s : State) : Host.Outcome State Fault Refusal := runMicro (Micro.bitR 1 .l) s

/-- `BIT 1,(HL)` (R342) -/
def execBit1AtHl (s : State) : Host.Outcome State Fault Refusal := runMicro (Micro.bitHl 1) s

/-- `BIT 1,A` (R342) -/
def execBit1A (s : State) : Host.Outcome State Fault Refusal := runMicro (Micro.bitR 1 .a) s

/-- `BIT 2,B` (R342) -/
def execBit2B (s : State) : Host.Outcome State Fault Refusal := runMicro (Micro.bitR 2 .b) s

/-- `BIT 2,C` (R342) -/
def execBit2C (s : State) : Host.Outcome State Fault Refusal := runMicro (Micro.bitR 2 .c) s

/-- `BIT 2,D` (R342) -/
def execBit2D (s : State) : Host.Outcome State Fault Refusal := runMicro (Micro.bitR 2 .d) s

/-- `BIT 2,E` (R342) -/
def execBit2E (s : State) : Host.Outcome State Fault Refusal := runMicro (Micro.bitR 2 .e) s

/-- `BIT 2,H` (R342) -/
def execBit2H (s : State) : Host.Outcome State Fault Refusal := runMicro (Micro.bitR 2 .h) s

/-- `BIT 2,L` (R342) -/
def execBit2L (s : State) : Host.Outcome State Fault Refusal := runMicro (Micro.bitR 2 .l) s

/-- `BIT 2,(HL)` (R342) -/
def execBit2AtHl (s : State) : Host.Outcome State Fault Refusal := runMicro (Micro.bitHl 2) s

/-- `BIT 2,A` (R342) -/
def execBit2A (s : State) : Host.Outcome State Fault Refusal := runMicro (Micro.bitR 2 .a) s

/-- `BIT 3,B` (R342) -/
def execBit3B (s : State) : Host.Outcome State Fault Refusal := runMicro (Micro.bitR 3 .b) s

/-- `BIT 3,C` (R342) -/
def execBit3C (s : State) : Host.Outcome State Fault Refusal := runMicro (Micro.bitR 3 .c) s

/-- `BIT 3,D` (R342) -/
def execBit3D (s : State) : Host.Outcome State Fault Refusal := runMicro (Micro.bitR 3 .d) s

/-- `BIT 3,E` (R342) -/
def execBit3E (s : State) : Host.Outcome State Fault Refusal := runMicro (Micro.bitR 3 .e) s

/-- `BIT 3,H` (R342) -/
def execBit3H (s : State) : Host.Outcome State Fault Refusal := runMicro (Micro.bitR 3 .h) s

/-- `BIT 3,L` (R342) -/
def execBit3L (s : State) : Host.Outcome State Fault Refusal := runMicro (Micro.bitR 3 .l) s

/-- `BIT 3,(HL)` (R342) -/
def execBit3AtHl (s : State) : Host.Outcome State Fault Refusal := runMicro (Micro.bitHl 3) s

/-- `BIT 3,A` (R342) -/
def execBit3A (s : State) : Host.Outcome State Fault Refusal := runMicro (Micro.bitR 3 .a) s

/-- `BIT 4,B` (R342) -/
def execBit4B (s : State) : Host.Outcome State Fault Refusal := runMicro (Micro.bitR 4 .b) s

/-- `BIT 4,C` (R342) -/
def execBit4C (s : State) : Host.Outcome State Fault Refusal := runMicro (Micro.bitR 4 .c) s

/-- `BIT 4,D` (R342) -/
def execBit4D (s : State) : Host.Outcome State Fault Refusal := runMicro (Micro.bitR 4 .d) s

/-- `BIT 4,E` (R342) -/
def execBit4E (s : State) : Host.Outcome State Fault Refusal := runMicro (Micro.bitR 4 .e) s

/-- `BIT 4,H` (R342) -/
def execBit4H (s : State) : Host.Outcome State Fault Refusal := runMicro (Micro.bitR 4 .h) s

/-- `BIT 4,L` (R342) -/
def execBit4L (s : State) : Host.Outcome State Fault Refusal := runMicro (Micro.bitR 4 .l) s

/-- `BIT 4,(HL)` (R342) -/
def execBit4AtHl (s : State) : Host.Outcome State Fault Refusal := runMicro (Micro.bitHl 4) s

/-- `BIT 4,A` (R342) -/
def execBit4A (s : State) : Host.Outcome State Fault Refusal := runMicro (Micro.bitR 4 .a) s

/-- `BIT 5,B` (R342) -/
def execBit5B (s : State) : Host.Outcome State Fault Refusal := runMicro (Micro.bitR 5 .b) s

/-- `BIT 5,C` (R342) -/
def execBit5C (s : State) : Host.Outcome State Fault Refusal := runMicro (Micro.bitR 5 .c) s

/-- `BIT 5,D` (R342) -/
def execBit5D (s : State) : Host.Outcome State Fault Refusal := runMicro (Micro.bitR 5 .d) s

/-- `BIT 5,E` (R342) -/
def execBit5E (s : State) : Host.Outcome State Fault Refusal := runMicro (Micro.bitR 5 .e) s

/-- `BIT 5,H` (R342) -/
def execBit5H (s : State) : Host.Outcome State Fault Refusal := runMicro (Micro.bitR 5 .h) s

/-- `BIT 5,L` (R342) -/
def execBit5L (s : State) : Host.Outcome State Fault Refusal := runMicro (Micro.bitR 5 .l) s

/-- `BIT 5,(HL)` (R342) -/
def execBit5AtHl (s : State) : Host.Outcome State Fault Refusal := runMicro (Micro.bitHl 5) s

/-- `BIT 5,A` (R342) -/
def execBit5A (s : State) : Host.Outcome State Fault Refusal := runMicro (Micro.bitR 5 .a) s

/-- `BIT 6,B` (R342) -/
def execBit6B (s : State) : Host.Outcome State Fault Refusal := runMicro (Micro.bitR 6 .b) s

/-- `BIT 6,C` (R342) -/
def execBit6C (s : State) : Host.Outcome State Fault Refusal := runMicro (Micro.bitR 6 .c) s

/-- `BIT 6,D` (R342) -/
def execBit6D (s : State) : Host.Outcome State Fault Refusal := runMicro (Micro.bitR 6 .d) s

/-- `BIT 6,E` (R342) -/
def execBit6E (s : State) : Host.Outcome State Fault Refusal := runMicro (Micro.bitR 6 .e) s

/-- `BIT 6,H` (R342) -/
def execBit6H (s : State) : Host.Outcome State Fault Refusal := runMicro (Micro.bitR 6 .h) s

/-- `BIT 6,L` (R342) -/
def execBit6L (s : State) : Host.Outcome State Fault Refusal := runMicro (Micro.bitR 6 .l) s

/-- `BIT 6,(HL)` (R342) -/
def execBit6AtHl (s : State) : Host.Outcome State Fault Refusal := runMicro (Micro.bitHl 6) s

/-- `BIT 6,A` (R342) -/
def execBit6A (s : State) : Host.Outcome State Fault Refusal := runMicro (Micro.bitR 6 .a) s

/-- `BIT 7,B` (R342) -/
def execBit7B (s : State) : Host.Outcome State Fault Refusal := runMicro (Micro.bitR 7 .b) s

/-- `BIT 7,C` (R342) -/
def execBit7C (s : State) : Host.Outcome State Fault Refusal := runMicro (Micro.bitR 7 .c) s

/-- `BIT 7,D` (R342) -/
def execBit7D (s : State) : Host.Outcome State Fault Refusal := runMicro (Micro.bitR 7 .d) s

/-- `BIT 7,E` (R342) -/
def execBit7E (s : State) : Host.Outcome State Fault Refusal := runMicro (Micro.bitR 7 .e) s

/-- `BIT 7,H` (R342) -/
def execBit7H (s : State) : Host.Outcome State Fault Refusal := runMicro (Micro.bitR 7 .h) s

/-- `BIT 7,L` (R342) -/
def execBit7L (s : State) : Host.Outcome State Fault Refusal := runMicro (Micro.bitR 7 .l) s

/-- `BIT 7,(HL)` (R342) -/
def execBit7AtHl (s : State) : Host.Outcome State Fault Refusal := runMicro (Micro.bitHl 7) s

/-- `BIT 7,A` (R342) -/
def execBit7A (s : State) : Host.Outcome State Fault Refusal := runMicro (Micro.bitR 7 .a) s

/-- `RES 0,B` (R343) -/
def execRes0B (s : State) : Host.Outcome State Fault Refusal := runMicro (Micro.resR 0 .b) s

/-- `RES 0,C` (R343) -/
def execRes0C (s : State) : Host.Outcome State Fault Refusal := runMicro (Micro.resR 0 .c) s

/-- `RES 0,D` (R343) -/
def execRes0D (s : State) : Host.Outcome State Fault Refusal := runMicro (Micro.resR 0 .d) s

/-- `RES 0,E` (R343) -/
def execRes0E (s : State) : Host.Outcome State Fault Refusal := runMicro (Micro.resR 0 .e) s

/-- `RES 0,H` (R343) -/
def execRes0H (s : State) : Host.Outcome State Fault Refusal := runMicro (Micro.resR 0 .h) s

/-- `RES 0,L` (R343) -/
def execRes0L (s : State) : Host.Outcome State Fault Refusal := runMicro (Micro.resR 0 .l) s

/-- `RES 0,(HL)` (R343) -/
def execRes0AtHl (s : State) : Host.Outcome State Fault Refusal := runMicro (Micro.resHl 0) s

/-- `RES 0,A` (R343) -/
def execRes0A (s : State) : Host.Outcome State Fault Refusal := runMicro (Micro.resR 0 .a) s

/-- `RES 1,B` (R343) -/
def execRes1B (s : State) : Host.Outcome State Fault Refusal := runMicro (Micro.resR 1 .b) s

/-- `RES 1,C` (R343) -/
def execRes1C (s : State) : Host.Outcome State Fault Refusal := runMicro (Micro.resR 1 .c) s

/-- `RES 1,D` (R343) -/
def execRes1D (s : State) : Host.Outcome State Fault Refusal := runMicro (Micro.resR 1 .d) s

/-- `RES 1,E` (R343) -/
def execRes1E (s : State) : Host.Outcome State Fault Refusal := runMicro (Micro.resR 1 .e) s

/-- `RES 1,H` (R343) -/
def execRes1H (s : State) : Host.Outcome State Fault Refusal := runMicro (Micro.resR 1 .h) s

/-- `RES 1,L` (R343) -/
def execRes1L (s : State) : Host.Outcome State Fault Refusal := runMicro (Micro.resR 1 .l) s

/-- `RES 1,(HL)` (R343) -/
def execRes1AtHl (s : State) : Host.Outcome State Fault Refusal := runMicro (Micro.resHl 1) s

/-- `RES 1,A` (R343) -/
def execRes1A (s : State) : Host.Outcome State Fault Refusal := runMicro (Micro.resR 1 .a) s

/-- `RES 2,B` (R343) -/
def execRes2B (s : State) : Host.Outcome State Fault Refusal := runMicro (Micro.resR 2 .b) s

/-- `RES 2,C` (R343) -/
def execRes2C (s : State) : Host.Outcome State Fault Refusal := runMicro (Micro.resR 2 .c) s

/-- `RES 2,D` (R343) -/
def execRes2D (s : State) : Host.Outcome State Fault Refusal := runMicro (Micro.resR 2 .d) s

/-- `RES 2,E` (R343) -/
def execRes2E (s : State) : Host.Outcome State Fault Refusal := runMicro (Micro.resR 2 .e) s

/-- `RES 2,H` (R343) -/
def execRes2H (s : State) : Host.Outcome State Fault Refusal := runMicro (Micro.resR 2 .h) s

/-- `RES 2,L` (R343) -/
def execRes2L (s : State) : Host.Outcome State Fault Refusal := runMicro (Micro.resR 2 .l) s

/-- `RES 2,(HL)` (R343) -/
def execRes2AtHl (s : State) : Host.Outcome State Fault Refusal := runMicro (Micro.resHl 2) s

/-- `RES 2,A` (R343) -/
def execRes2A (s : State) : Host.Outcome State Fault Refusal := runMicro (Micro.resR 2 .a) s

/-- `RES 3,B` (R343) -/
def execRes3B (s : State) : Host.Outcome State Fault Refusal := runMicro (Micro.resR 3 .b) s

/-- `RES 3,C` (R343) -/
def execRes3C (s : State) : Host.Outcome State Fault Refusal := runMicro (Micro.resR 3 .c) s

/-- `RES 3,D` (R343) -/
def execRes3D (s : State) : Host.Outcome State Fault Refusal := runMicro (Micro.resR 3 .d) s

/-- `RES 3,E` (R343) -/
def execRes3E (s : State) : Host.Outcome State Fault Refusal := runMicro (Micro.resR 3 .e) s

/-- `RES 3,H` (R343) -/
def execRes3H (s : State) : Host.Outcome State Fault Refusal := runMicro (Micro.resR 3 .h) s

/-- `RES 3,L` (R343) -/
def execRes3L (s : State) : Host.Outcome State Fault Refusal := runMicro (Micro.resR 3 .l) s

/-- `RES 3,(HL)` (R343) -/
def execRes3AtHl (s : State) : Host.Outcome State Fault Refusal := runMicro (Micro.resHl 3) s

/-- `RES 3,A` (R343) -/
def execRes3A (s : State) : Host.Outcome State Fault Refusal := runMicro (Micro.resR 3 .a) s

/-- `RES 4,B` (R343) -/
def execRes4B (s : State) : Host.Outcome State Fault Refusal := runMicro (Micro.resR 4 .b) s

/-- `RES 4,C` (R343) -/
def execRes4C (s : State) : Host.Outcome State Fault Refusal := runMicro (Micro.resR 4 .c) s

/-- `RES 4,D` (R343) -/
def execRes4D (s : State) : Host.Outcome State Fault Refusal := runMicro (Micro.resR 4 .d) s

/-- `RES 4,E` (R343) -/
def execRes4E (s : State) : Host.Outcome State Fault Refusal := runMicro (Micro.resR 4 .e) s

/-- `RES 4,H` (R343) -/
def execRes4H (s : State) : Host.Outcome State Fault Refusal := runMicro (Micro.resR 4 .h) s

/-- `RES 4,L` (R343) -/
def execRes4L (s : State) : Host.Outcome State Fault Refusal := runMicro (Micro.resR 4 .l) s

/-- `RES 4,(HL)` (R343) -/
def execRes4AtHl (s : State) : Host.Outcome State Fault Refusal := runMicro (Micro.resHl 4) s

/-- `RES 4,A` (R343) -/
def execRes4A (s : State) : Host.Outcome State Fault Refusal := runMicro (Micro.resR 4 .a) s

/-- `RES 5,B` (R343) -/
def execRes5B (s : State) : Host.Outcome State Fault Refusal := runMicro (Micro.resR 5 .b) s

/-- `RES 5,C` (R343) -/
def execRes5C (s : State) : Host.Outcome State Fault Refusal := runMicro (Micro.resR 5 .c) s

/-- `RES 5,D` (R343) -/
def execRes5D (s : State) : Host.Outcome State Fault Refusal := runMicro (Micro.resR 5 .d) s

/-- `RES 5,E` (R343) -/
def execRes5E (s : State) : Host.Outcome State Fault Refusal := runMicro (Micro.resR 5 .e) s

/-- `RES 5,H` (R343) -/
def execRes5H (s : State) : Host.Outcome State Fault Refusal := runMicro (Micro.resR 5 .h) s

/-- `RES 5,L` (R343) -/
def execRes5L (s : State) : Host.Outcome State Fault Refusal := runMicro (Micro.resR 5 .l) s

/-- `RES 5,(HL)` (R343) -/
def execRes5AtHl (s : State) : Host.Outcome State Fault Refusal := runMicro (Micro.resHl 5) s

/-- `RES 5,A` (R343) -/
def execRes5A (s : State) : Host.Outcome State Fault Refusal := runMicro (Micro.resR 5 .a) s

/-- `RES 6,B` (R343) -/
def execRes6B (s : State) : Host.Outcome State Fault Refusal := runMicro (Micro.resR 6 .b) s

/-- `RES 6,C` (R343) -/
def execRes6C (s : State) : Host.Outcome State Fault Refusal := runMicro (Micro.resR 6 .c) s

/-- `RES 6,D` (R343) -/
def execRes6D (s : State) : Host.Outcome State Fault Refusal := runMicro (Micro.resR 6 .d) s

/-- `RES 6,E` (R343) -/
def execRes6E (s : State) : Host.Outcome State Fault Refusal := runMicro (Micro.resR 6 .e) s

/-- `RES 6,H` (R343) -/
def execRes6H (s : State) : Host.Outcome State Fault Refusal := runMicro (Micro.resR 6 .h) s

/-- `RES 6,L` (R343) -/
def execRes6L (s : State) : Host.Outcome State Fault Refusal := runMicro (Micro.resR 6 .l) s

/-- `RES 6,(HL)` (R343) -/
def execRes6AtHl (s : State) : Host.Outcome State Fault Refusal := runMicro (Micro.resHl 6) s

/-- `RES 6,A` (R343) -/
def execRes6A (s : State) : Host.Outcome State Fault Refusal := runMicro (Micro.resR 6 .a) s

/-- `RES 7,B` (R343) -/
def execRes7B (s : State) : Host.Outcome State Fault Refusal := runMicro (Micro.resR 7 .b) s

/-- `RES 7,C` (R343) -/
def execRes7C (s : State) : Host.Outcome State Fault Refusal := runMicro (Micro.resR 7 .c) s

/-- `RES 7,D` (R343) -/
def execRes7D (s : State) : Host.Outcome State Fault Refusal := runMicro (Micro.resR 7 .d) s

/-- `RES 7,E` (R343) -/
def execRes7E (s : State) : Host.Outcome State Fault Refusal := runMicro (Micro.resR 7 .e) s

/-- `RES 7,H` (R343) -/
def execRes7H (s : State) : Host.Outcome State Fault Refusal := runMicro (Micro.resR 7 .h) s

/-- `RES 7,L` (R343) -/
def execRes7L (s : State) : Host.Outcome State Fault Refusal := runMicro (Micro.resR 7 .l) s

/-- `RES 7,(HL)` (R343) -/
def execRes7AtHl (s : State) : Host.Outcome State Fault Refusal := runMicro (Micro.resHl 7) s

/-- `RES 7,A` (R343) -/
def execRes7A (s : State) : Host.Outcome State Fault Refusal := runMicro (Micro.resR 7 .a) s

/-- `SET 0,B` (R344) -/
def execSet0B (s : State) : Host.Outcome State Fault Refusal := runMicro (Micro.setR 0 .b) s

/-- `SET 0,C` (R344) -/
def execSet0C (s : State) : Host.Outcome State Fault Refusal := runMicro (Micro.setR 0 .c) s

/-- `SET 0,D` (R344) -/
def execSet0D (s : State) : Host.Outcome State Fault Refusal := runMicro (Micro.setR 0 .d) s

/-- `SET 0,E` (R344) -/
def execSet0E (s : State) : Host.Outcome State Fault Refusal := runMicro (Micro.setR 0 .e) s

/-- `SET 0,H` (R344) -/
def execSet0H (s : State) : Host.Outcome State Fault Refusal := runMicro (Micro.setR 0 .h) s

/-- `SET 0,L` (R344) -/
def execSet0L (s : State) : Host.Outcome State Fault Refusal := runMicro (Micro.setR 0 .l) s

/-- `SET 0,(HL)` (R344) -/
def execSet0AtHl (s : State) : Host.Outcome State Fault Refusal := runMicro (Micro.setHl 0) s

/-- `SET 0,A` (R344) -/
def execSet0A (s : State) : Host.Outcome State Fault Refusal := runMicro (Micro.setR 0 .a) s

/-- `SET 1,B` (R344) -/
def execSet1B (s : State) : Host.Outcome State Fault Refusal := runMicro (Micro.setR 1 .b) s

/-- `SET 1,C` (R344) -/
def execSet1C (s : State) : Host.Outcome State Fault Refusal := runMicro (Micro.setR 1 .c) s

/-- `SET 1,D` (R344) -/
def execSet1D (s : State) : Host.Outcome State Fault Refusal := runMicro (Micro.setR 1 .d) s

/-- `SET 1,E` (R344) -/
def execSet1E (s : State) : Host.Outcome State Fault Refusal := runMicro (Micro.setR 1 .e) s

/-- `SET 1,H` (R344) -/
def execSet1H (s : State) : Host.Outcome State Fault Refusal := runMicro (Micro.setR 1 .h) s

/-- `SET 1,L` (R344) -/
def execSet1L (s : State) : Host.Outcome State Fault Refusal := runMicro (Micro.setR 1 .l) s

/-- `SET 1,(HL)` (R344) -/
def execSet1AtHl (s : State) : Host.Outcome State Fault Refusal := runMicro (Micro.setHl 1) s

/-- `SET 1,A` (R344) -/
def execSet1A (s : State) : Host.Outcome State Fault Refusal := runMicro (Micro.setR 1 .a) s

/-- `SET 2,B` (R344) -/
def execSet2B (s : State) : Host.Outcome State Fault Refusal := runMicro (Micro.setR 2 .b) s

/-- `SET 2,C` (R344) -/
def execSet2C (s : State) : Host.Outcome State Fault Refusal := runMicro (Micro.setR 2 .c) s

/-- `SET 2,D` (R344) -/
def execSet2D (s : State) : Host.Outcome State Fault Refusal := runMicro (Micro.setR 2 .d) s

/-- `SET 2,E` (R344) -/
def execSet2E (s : State) : Host.Outcome State Fault Refusal := runMicro (Micro.setR 2 .e) s

/-- `SET 2,H` (R344) -/
def execSet2H (s : State) : Host.Outcome State Fault Refusal := runMicro (Micro.setR 2 .h) s

/-- `SET 2,L` (R344) -/
def execSet2L (s : State) : Host.Outcome State Fault Refusal := runMicro (Micro.setR 2 .l) s

/-- `SET 2,(HL)` (R344) -/
def execSet2AtHl (s : State) : Host.Outcome State Fault Refusal := runMicro (Micro.setHl 2) s

/-- `SET 2,A` (R344) -/
def execSet2A (s : State) : Host.Outcome State Fault Refusal := runMicro (Micro.setR 2 .a) s

/-- `SET 3,B` (R344) -/
def execSet3B (s : State) : Host.Outcome State Fault Refusal := runMicro (Micro.setR 3 .b) s

/-- `SET 3,C` (R344) -/
def execSet3C (s : State) : Host.Outcome State Fault Refusal := runMicro (Micro.setR 3 .c) s

/-- `SET 3,D` (R344) -/
def execSet3D (s : State) : Host.Outcome State Fault Refusal := runMicro (Micro.setR 3 .d) s

/-- `SET 3,E` (R344) -/
def execSet3E (s : State) : Host.Outcome State Fault Refusal := runMicro (Micro.setR 3 .e) s

/-- `SET 3,H` (R344) -/
def execSet3H (s : State) : Host.Outcome State Fault Refusal := runMicro (Micro.setR 3 .h) s

/-- `SET 3,L` (R344) -/
def execSet3L (s : State) : Host.Outcome State Fault Refusal := runMicro (Micro.setR 3 .l) s

/-- `SET 3,(HL)` (R344) -/
def execSet3AtHl (s : State) : Host.Outcome State Fault Refusal := runMicro (Micro.setHl 3) s

/-- `SET 3,A` (R344) -/
def execSet3A (s : State) : Host.Outcome State Fault Refusal := runMicro (Micro.setR 3 .a) s

/-- `SET 4,B` (R344) -/
def execSet4B (s : State) : Host.Outcome State Fault Refusal := runMicro (Micro.setR 4 .b) s

/-- `SET 4,C` (R344) -/
def execSet4C (s : State) : Host.Outcome State Fault Refusal := runMicro (Micro.setR 4 .c) s

/-- `SET 4,D` (R344) -/
def execSet4D (s : State) : Host.Outcome State Fault Refusal := runMicro (Micro.setR 4 .d) s

/-- `SET 4,E` (R344) -/
def execSet4E (s : State) : Host.Outcome State Fault Refusal := runMicro (Micro.setR 4 .e) s

/-- `SET 4,H` (R344) -/
def execSet4H (s : State) : Host.Outcome State Fault Refusal := runMicro (Micro.setR 4 .h) s

/-- `SET 4,L` (R344) -/
def execSet4L (s : State) : Host.Outcome State Fault Refusal := runMicro (Micro.setR 4 .l) s

/-- `SET 4,(HL)` (R344) -/
def execSet4AtHl (s : State) : Host.Outcome State Fault Refusal := runMicro (Micro.setHl 4) s

/-- `SET 4,A` (R344) -/
def execSet4A (s : State) : Host.Outcome State Fault Refusal := runMicro (Micro.setR 4 .a) s

/-- `SET 5,B` (R344) -/
def execSet5B (s : State) : Host.Outcome State Fault Refusal := runMicro (Micro.setR 5 .b) s

/-- `SET 5,C` (R344) -/
def execSet5C (s : State) : Host.Outcome State Fault Refusal := runMicro (Micro.setR 5 .c) s

/-- `SET 5,D` (R344) -/
def execSet5D (s : State) : Host.Outcome State Fault Refusal := runMicro (Micro.setR 5 .d) s

/-- `SET 5,E` (R344) -/
def execSet5E (s : State) : Host.Outcome State Fault Refusal := runMicro (Micro.setR 5 .e) s

/-- `SET 5,H` (R344) -/
def execSet5H (s : State) : Host.Outcome State Fault Refusal := runMicro (Micro.setR 5 .h) s

/-- `SET 5,L` (R344) -/
def execSet5L (s : State) : Host.Outcome State Fault Refusal := runMicro (Micro.setR 5 .l) s

/-- `SET 5,(HL)` (R344) -/
def execSet5AtHl (s : State) : Host.Outcome State Fault Refusal := runMicro (Micro.setHl 5) s

/-- `SET 5,A` (R344) -/
def execSet5A (s : State) : Host.Outcome State Fault Refusal := runMicro (Micro.setR 5 .a) s

/-- `SET 6,B` (R344) -/
def execSet6B (s : State) : Host.Outcome State Fault Refusal := runMicro (Micro.setR 6 .b) s

/-- `SET 6,C` (R344) -/
def execSet6C (s : State) : Host.Outcome State Fault Refusal := runMicro (Micro.setR 6 .c) s

/-- `SET 6,D` (R344) -/
def execSet6D (s : State) : Host.Outcome State Fault Refusal := runMicro (Micro.setR 6 .d) s

/-- `SET 6,E` (R344) -/
def execSet6E (s : State) : Host.Outcome State Fault Refusal := runMicro (Micro.setR 6 .e) s

/-- `SET 6,H` (R344) -/
def execSet6H (s : State) : Host.Outcome State Fault Refusal := runMicro (Micro.setR 6 .h) s

/-- `SET 6,L` (R344) -/
def execSet6L (s : State) : Host.Outcome State Fault Refusal := runMicro (Micro.setR 6 .l) s

/-- `SET 6,(HL)` (R344) -/
def execSet6AtHl (s : State) : Host.Outcome State Fault Refusal := runMicro (Micro.setHl 6) s

/-- `SET 6,A` (R344) -/
def execSet6A (s : State) : Host.Outcome State Fault Refusal := runMicro (Micro.setR 6 .a) s

/-- `SET 7,B` (R344) -/
def execSet7B (s : State) : Host.Outcome State Fault Refusal := runMicro (Micro.setR 7 .b) s

/-- `SET 7,C` (R344) -/
def execSet7C (s : State) : Host.Outcome State Fault Refusal := runMicro (Micro.setR 7 .c) s

/-- `SET 7,D` (R344) -/
def execSet7D (s : State) : Host.Outcome State Fault Refusal := runMicro (Micro.setR 7 .d) s

/-- `SET 7,E` (R344) -/
def execSet7E (s : State) : Host.Outcome State Fault Refusal := runMicro (Micro.setR 7 .e) s

/-- `SET 7,H` (R344) -/
def execSet7H (s : State) : Host.Outcome State Fault Refusal := runMicro (Micro.setR 7 .h) s

/-- `SET 7,L` (R344) -/
def execSet7L (s : State) : Host.Outcome State Fault Refusal := runMicro (Micro.setR 7 .l) s

/-- `SET 7,(HL)` (R344) -/
def execSet7AtHl (s : State) : Host.Outcome State Fault Refusal := runMicro (Micro.setHl 7) s

/-- `SET 7,A` (R344) -/
def execSet7A (s : State) : Host.Outcome State Fault Refusal := runMicro (Micro.setR 7 .a) s

end Sys2Proof.Machine
end

