-- ==== Sys2Proof/Machine/System.lean ====
section
/-! DEFINITION. The meanings of the system instructions and undefined opcodes (spec/47_system.md R380 to R385):
first the micro-operation list of each form, as its rule gives it, then one definition per instruction. HALT, STOP and the undefined bytes have no micro-operations (spec/40_cpu_fsm.md R179). -/

namespace Sys2Proof.Machine

namespace Micro

/-- R380 -/
def nop : List MicroOp := []

/-- R383 -/
def di : List MicroOp := [.imeOff true]

/-- R384 -/
def ei : List MicroOp := [.imeOn true]

end Micro

/-- `HALT`: halt, or the halt bug when a request is pending with IME clear; no `Finish()` (47_system R381). -/
def halt (s : State) : State :=
  if s.irq.pending && !s.irq.ime then { s with eng := { s.eng with fsm := .opcode, haltBugMode := true } }
  else s.setFsm .halted

/-- The other speed. -/
def Speed.toggle : Speed → Speed
  | .normal => .double
  | .double => .normal

/-- `STOP`: the speed switch when one is armed (CGB), STOPPED otherwise; no `Finish()` (47_system R382). -/
def stop (s : State) : State :=
  if s.cfg.cgb && s.spd.prepareSwitch then
    ({ s with spd := { speed := s.spd.speed.toggle, prepareSwitch := false } } : State).setFsm .opcode
  else (s.setFsm .stopped).call .disableLcd

/-! ### One meaning per instruction -/

/-- `STOP` (R382) -/
def execStop (_ : Byte) (s : State) : Host.Outcome State Fault Refusal := .next (stop s)

/-- `NOP` (R380) -/
def execNop (s : State) : Host.Outcome State Fault Refusal := runMicro Micro.nop s

/-- `HALT` (R381) -/
def execHalt (s : State) : Host.Outcome State Fault Refusal := .next (halt s)

/-- `ILLEGAL_D3` (R385) -/
def execIllegalD3 (s : State) : Host.Outcome State Fault Refusal := .next (raiseUnknownOpcode 0xD3 s)

/-- `ILLEGAL_DB` (R385) -/
def execIllegalDB (s : State) : Host.Outcome State Fault Refusal := .next (raiseUnknownOpcode 0xDB s)

/-- `ILLEGAL_DD` (R385) -/
def execIllegalDD (s : State) : Host.Outcome State Fault Refusal := .next (raiseUnknownOpcode 0xDD s)

/-- `ILLEGAL_E3` (R385) -/
def execIllegalE3 (s : State) : Host.Outcome State Fault Refusal := .next (raiseUnknownOpcode 0xE3 s)

/-- `ILLEGAL_E4` (R385) -/
def execIllegalE4 (s : State) : Host.Outcome State Fault Refusal := .next (raiseUnknownOpcode 0xE4 s)

/-- `ILLEGAL_EB` (R385) -/
def execIllegalEB (s : State) : Host.Outcome State Fault Refusal := .next (raiseUnknownOpcode 0xEB s)

/-- `ILLEGAL_EC` (R385) -/
def execIllegalEC (s : State) : Host.Outcome State Fault Refusal := .next (raiseUnknownOpcode 0xEC s)

/-- `ILLEGAL_ED` (R385) -/
def execIllegalED (s : State) : Host.Outcome State Fault Refusal := .next (raiseUnknownOpcode 0xED s)

/-- `DI` (R383) -/
def execDi (s : State) : Host.Outcome State Fault Refusal := runMicro Micro.di s

/-- `ILLEGAL_F4` (R385) -/
def execIllegalF4 (s : State) : Host.Outcome State Fault Refusal := .next (raiseUnknownOpcode 0xF4 s)

/-- `EI` (R384) -/
def execEi (s : State) : Host.Outcome State Fault Refusal := runMicro Micro.ei s

/-- `ILLEGAL_FC` (R385) -/
def execIllegalFC (s : State) : Host.Outcome State Fault Refusal := .next (raiseUnknownOpcode 0xFC s)

/-- `ILLEGAL_FD` (R385) -/
def execIllegalFD (s : State) : Host.Outcome State Fault Refusal := .next (raiseUnknownOpcode 0xFD s)

end Sys2Proof.Machine
end

