-- ==== Sys2Proof/Machine/Fetch.lean ====
section
/-! DEFINITION. Fetch and decode: the bytes of an instruction, each read in its own M-cycle (spec/40_cpu_fsm.md R175 to
R178, spec/20_memory.md R113), and one instruction from fetch to end. -/

namespace Sys2Proof.Machine

/-- The entry that the opcode byte alone selects: none for 0xCB and for the bytes without an entry. -/
def entryOf (b : Byte) : Option TableEntry := if b = 0xCB ∨ Decode.isUndefined b then none else some (.base b)

/-- State OPCODE: the latches are cleared, the opcode byte is read, and the next state is chosen. PC stays for an
undefined byte, and for the fetch after the halt bug (40_cpu_fsm R175, R176). -/
def fetchOpcode (s : State) : State :=
  let b := memRead s s.regs.pc
  { s with
    regs := if Decode.isUndefined b || s.eng.haltBugMode then s.regs else { s.regs with pc := s.regs.pc + 1 }
    eng := { s.eng with
      opcode1 := b, opcode2 := 0, operand0 := 0, operand1 := 0, operandIndex := 0, opIndex := 0, ctx := 0
      entry := entryOf b
      fsm := if Decode.isUndefined b then s.eng.fsm else if Decode.hasSecondOpcode b then .extOpcode else .operand
      haltBugMode := if Decode.isUndefined b then s.eng.haltBugMode else false } }

/-- State EXT_OPCODE: the second byte (40_cpu_fsm R177). -/
def fetchSecond (s : State) : State :=
  let b := memRead s s.regs.pc
  { s with
    regs := { s.regs with pc := s.regs.pc + 1 }
    eng := { s.eng with opcode2 := b, fsm := .operand, entry := if s.eng.entry.isNone then some (.cb b) else s.eng.entry } }

/-- State OPERAND: one operand byte (40_cpu_fsm R178). -/
def fetchOperand (s : State) : State :=
  let b := memRead s s.regs.pc
  { s with
    regs := { s.regs with pc := s.regs.pc + 1 }
    eng := { s.eng with
      operand0 := if s.eng.operandIndex = 0 then b else s.eng.operand0
      operand1 := if s.eng.operandIndex = 1 then b else s.eng.operand1
      operandIndex := s.eng.operandIndex + 1 } }

/-- The operand bytes, one per M-cycle. -/
def fetchOperands : Nat → State → State
  | 0, s => s
  | n + 1, s => fetchOperands n (fetchOperand (nextCycle s))

/-- The bytes after the opcode byte: to the gated tick in which the last byte is read, in state RUNNING. -/
def fetchRest (s : State) : State :=
  if Decode.isUndefined s.eng.opcode1 then s
  else if Decode.hasSecondOpcode s.eng.opcode1 then (fetchSecond (nextCycle s)).setFsm .running
  else (fetchOperands (Decode.operandLength s.eng.opcode1) s).setFsm .running

/-- From the gated tick of the opcode fetch to that of the last byte. -/
def fetch (s : State) : State := fetchRest (fetchOpcode s)

/-- The instruction whose bytes the latches hold. -/
def Engine.instr (e : Engine) : Instr :=
  Decode.decodeBytes e.opcode1 (if Decode.hasSecondOpcode e.opcode1 then e.opcode2 else e.operand0) e.operand1

/-- The end of the master tick in which an instruction ended: the other agents' part of it, unless the machine has
stopped for good (40_cpu_fsm R198; log 8). -/
def endTick (s : State) : State := if s.eng.faulted.isSome then s else postCpu s

/-- One instruction, from the gated tick of its opcode fetch to the end of the master tick in which it ends. -/
def runInstruction (s : State) : Host.Outcome State Fault Refusal :=
  match exec (fetch s).eng.instr (fetch s) with
  | .next t => .next (endTick t)
  | .fault r => .fault r
  | .refused r => .refused r

/-! ### Placing a program from outside the machine (log 6) -/

/-- Addresses a program can be placed at: the flat ROM outside the boot ROM overlay, work RAM and its echo, HRAM. -/
def loadable (s : State) (a : Word) : Bool :=
  (decide (a.toNat < 0x8000) && decide (s.cfg.cartridge = .flatRom) && !s.bootCovers a.toNat) ||
    (decide (0xC000 ≤ a.toNat) && decide (a.toNat < 0xFE00)) || (decide (0xFF80 ≤ a.toNat) && decide (a.toNat < 0xFFFF))

/-- Puts a byte into the cell an address names, the flat ROM's cells included. -/
def loadByte (s : State) (a : Word) (v : Byte) : State :=
  match place s a with
  | .cell k => { s with mem := Mem.write s.mem k v }
  | .cart n => { s with mem := Mem.write s.mem n v }
  | .boot _ => s
  | .device _ => s
  | .void => s

/-- Puts bytes at consecutive addresses. -/
def loadBytes : State → Word → List Byte → State
  | s, _, [] => s
  | s, a, v :: vs => loadBytes (loadByte s a v) (a + 1) vs

/-- The state in which the bytes are what the next step fetches: at pc if a program can be placed there, else at
0xC000 with pc there; in state OPCODE, not faulted, without a halt-bug fetch, the bus not held by HDMA, and the stop
flag clear. -/
def placeProgram (s : State) (bytes : List Byte) : State :=
  let here := loadable s s.regs.pc && loadable s (s.regs.pc + 1) && loadable s (s.regs.pc + 2)
  let t := { s with
    regs := if here then s.regs else { s.regs with pc := 0xC000 }
    eng := { s.eng with fsm := .opcode, haltBugMode := false, faulted := none }
    hdma := { s.hdma with inProgress := s.hdma.inProgress && !s.hdmaActive }
    host := { s.host with stopFlag := false } }
  let u := loadBytes t t.regs.pc bytes
  { u with irq := { u.irq with ime := u.irq.ime && !(nextSlot u).irq.pending } }

end Sys2Proof.Machine
end

