-- ==== Sys2Proof/Machine/Programs.lean ====
section
/-! DEFINITION. The micro-operation list of every form, as one function: what the table entry of an instruction holds
(spec/40_cpu_fsm.md R180, R187). HALT, STOP and the undefined bytes have none (R179, R175). -/

namespace Sys2Proof.Machine

/-- `ops` of a form. -/
def Form.ops : Form → List MicroOp
  | .ldRR dst src => Micro.ldRR dst src
  | .ldRD8 dst n => Micro.ldRD8 dst n
  | .ldRHl dst => Micro.ldRHl dst
  | .ldHlR src => Micro.ldHlR src
  | .ldHlD8 n => Micro.ldHlD8 n
  | .ldABc => Micro.ldABc
  | .ldADe => Micro.ldADe
  | .ldBcA => Micro.ldBcA
  | .ldDeA => Micro.ldDeA
  | .ldAA16 nn => Micro.ldAA16 nn
  | .ldA16A nn => Micro.ldA16A nn
  | .ldhAA8 n => Micro.ldhAA8 n
  | .ldhA8A n => Micro.ldhA8A n
  | .ldACMem => Micro.ldACMem
  | .ldCMemA => Micro.ldCMemA
  | .ldHlIncA => Micro.ldHlIncA
  | .ldHlDecA => Micro.ldHlDecA
  | .ldAHlInc => Micro.ldAHlInc
  | .ldAHlDec => Micro.ldAHlDec
  | .ldRrD16 rr nn => Micro.ldRrD16 rr nn
  | .ldA16Sp nn => Micro.ldA16Sp nn
  | .ldSpHl => Micro.ldSpHl
  | .ldHlSpR8 e => Micro.ldHlSpR8 e
  | .push rr => Micro.push rr
  | .pop rr => Micro.pop rr
  | .aluR op src => Micro.aluR op src
  | .aluHl op => Micro.aluHl op
  | .aluD8 op n => Micro.aluD8 op n
  | .incR r => Micro.incR r
  | .incHlMem => Micro.incHlMem
  | .decR r => Micro.decR r
  | .decHlMem => Micro.decHlMem
  | .daa => Micro.daa
  | .cpl => Micro.cpl
  | .scf => Micro.scf
  | .ccf => Micro.ccf
  | .addHlRr rr => Micro.addHlRr rr
  | .incRr rr => Micro.incRr rr
  | .decRr rr => Micro.decRr rr
  | .addSpR8 e => Micro.addSpR8 e
  | .rlca => Micro.rlca
  | .rrca => Micro.rrca
  | .rla => Micro.rla
  | .rra => Micro.rra
  | .shiftR op r => Micro.shiftR op r
  | .shiftHl op => Micro.shiftHl op
  | .bitR k r => Micro.bitR k r
  | .bitHl k => Micro.bitHl k
  | .resR k r => Micro.resR k r
  | .resHl k => Micro.resHl k
  | .setR k r => Micro.setR k r
  | .setHl k => Micro.setHl k
  | .jp nn => Micro.jp nn
  | .jpCc cc nn => Micro.jpCc cc nn
  | .jpHl => Micro.jpHl
  | .jr e => Micro.jr e
  | .jrCc cc e => Micro.jrCc cc e
  | .call nn => Micro.call nn
  | .callCc cc nn => Micro.callCc cc nn
  | .ret => Micro.ret
  | .retCc cc => Micro.retCc cc
  | .reti => Micro.reti
  | .rst y => Micro.rst y
  | .nop => Micro.nop
  | .halt => []
  | .stop _ => []
  | .di => Micro.di
  | .ei => Micro.ei
  | .illegal _ => []

/-- The meaning of a form: what every instruction of that form does (the law `exec_form`). -/
def formExec (f : Form) (s : State) : Host.Outcome State Fault Refusal :=
  match f with
  | .halt => .next (halt s)
  | .stop _ => .next (stop s)
  | .illegal b => .next (raiseUnknownOpcode b s)
  | .ldRR dst src => runMicro (Micro.ldRR dst src) s
  | .ldRD8 dst n => runMicro (Micro.ldRD8 dst n) s
  | .ldRHl dst => runMicro (Micro.ldRHl dst) s
  | .ldHlR src => runMicro (Micro.ldHlR src) s
  | .ldHlD8 n => runMicro (Micro.ldHlD8 n) s
  | .ldABc => runMicro (Micro.ldABc) s
  | .ldADe => runMicro (Micro.ldADe) s
  | .ldBcA => runMicro (Micro.ldBcA) s
  | .ldDeA => runMicro (Micro.ldDeA) s
  | .ldAA16 nn => runMicro (Micro.ldAA16 nn) s
  | .ldA16A nn => runMicro (Micro.ldA16A nn) s
  | .ldhAA8 n => runMicro (Micro.ldhAA8 n) s
  | .ldhA8A n => runMicro (Micro.ldhA8A n) s
  | .ldACMem => runMicro (Micro.ldACMem) s
  | .ldCMemA => runMicro (Micro.ldCMemA) s
  | .ldHlIncA => runMicro (Micro.ldHlIncA) s
  | .ldHlDecA => runMicro (Micro.ldHlDecA) s
  | .ldAHlInc => runMicro (Micro.ldAHlInc) s
  | .ldAHlDec => runMicro (Micro.ldAHlDec) s
  | .ldRrD16 rr nn => runMicro (Micro.ldRrD16 rr nn) s
  | .ldA16Sp nn => runMicro (Micro.ldA16Sp nn) s
  | .ldSpHl => runMicro (Micro.ldSpHl) s
  | .ldHlSpR8 e => runMicro (Micro.ldHlSpR8 e) s
  | .push rr => runMicro (Micro.push rr) s
  | .pop rr => runMicro (Micro.pop rr) s
  | .aluR op src => runMicro (Micro.aluR op src) s
  | .aluHl op => runMicro (Micro.aluHl op) s
  | .aluD8 op n => runMicro (Micro.aluD8 op n) s
  | .incR r => runMicro (Micro.incR r) s
  | .incHlMem => runMicro (Micro.incHlMem) s
  | .decR r => runMicro (Micro.decR r) s
  | .decHlMem => runMicro (Micro.decHlMem) s
  | .daa => runMicro (Micro.daa) s
  | .cpl => runMicro (Micro.cpl) s
  | .scf => runMicro (Micro.scf) s
  | .ccf => runMicro (Micro.ccf) s
  | .addHlRr rr => runMicro (Micro.addHlRr rr) s
  | .incRr rr => runMicro (Micro.incRr rr) s
  | .decRr rr => runMicro (Micro.decRr rr) s
  | .addSpR8 e => runMicro (Micro.addSpR8 e) s
  | .rlca => runMicro (Micro.rlca) s
  | .rrca => runMicro (Micro.rrca) s
  | .rla => runMicro (Micro.rla) s
  | .rra => runMicro (Micro.rra) s
  | .shiftR op r => runMicro (Micro.shiftR op r) s
  | .shiftHl op => runMicro (Micro.shiftHl op) s
  | .bitR k r => runMicro (Micro.bitR k r) s
  | .bitHl k => runMicro (Micro.bitHl k) s
  | .resR k r => runMicro (Micro.resR k r) s
  | .resHl k => runMicro (Micro.resHl k) s
  | .setR k r => runMicro (Micro.setR k r) s
  | .setHl k => runMicro (Micro.setHl k) s
  | .jp nn => runMicro (Micro.jp nn) s
  | .jpCc cc nn => runMicro (Micro.jpCc cc nn) s
  | .jpHl => runMicro (Micro.jpHl) s
  | .jr e => runMicro (Micro.jr e) s
  | .jrCc cc e => runMicro (Micro.jrCc cc e) s
  | .call nn => runMicro (Micro.call nn) s
  | .callCc cc nn => runMicro (Micro.callCc cc nn) s
  | .ret => runMicro (Micro.ret) s
  | .retCc cc => runMicro (Micro.retCc cc) s
  | .reti => runMicro (Micro.reti) s
  | .rst y => runMicro (Micro.rst y) s
  | .nop => runMicro Micro.nop s
  | .di => runMicro (Micro.di) s
  | .ei => runMicro (Micro.ei) s

end Sys2Proof.Machine
end

