-- ==== Sys2Proof/Machine/Tick.lean ====
section
/-! DEFINITION. The machine one master tick at a time, as spec/40_cpu_fsm.md R170 to R181 and spec/20_memory.md R120
write it: `CpuTick` and `MachineTick`. A step of the model runs many of these at once; a state in the middle of an
instruction or of the interrupt sequence is carried to its next boundary by them (assumption log 18). -/

namespace Sys2Proof.Machine

/-- The micro-operation list of the selected entry, with its operand bytes (40_cpu_fsm R180). -/
def Engine.ops (e : Engine) : List MicroOp :=
  match e.entry with
  | none => []
  | some (.base b) => (form (Decode.decodeBytes b e.operand0 e.operand1)).ops
  | some (.cb b) => (form (Decode.decodeBytes 0xCB b 0)).ops

/-- `OperandLength(entry)` (40_cpu_fsm R178). -/
def Engine.operandCount (e : Engine) : Nat :=
  match e.entry with
  | none => 0
  | some (.base b) => Decode.operandLength b
  | some (.cb _) => 0

/-- The loop of a gated tick (40_cpu_fsm R170, R175 to R181). The first argument bounds the number of rounds; the
second is `accessed`. -/
def gatedLoop : Nat → Bool → State → State
  | 0, _, s => s
  | n + 1, accessed, s =>
    match s.eng.fsm with
    | .opcode =>
      let t := fetchOpcode s
      if Decode.isUndefined t.eng.opcode1 then raiseUnknownOpcode t.eng.opcode1 t else gatedLoop n true t
    | .extOpcode => if accessed then s else gatedLoop n true (fetchSecond s)
    | .operand =>
      if s.eng.operandIndex < s.eng.operandCount then
        if accessed then s else gatedLoop n true (fetchOperand s)
      else gatedLoop n accessed (s.setFsm .running)
    | .running =>
      if s.eng.opcode1 = 0x10 then stop s
      else if s.eng.opcode1 = 0x76 then halt s
      else
        match s.eng.ops[s.eng.opIndex]? with
        | none => finish s
        | some op =>
          if accessed && op.mem then s
          else if !op.proceeds s then finish ((op.step s).setOpIndex s.eng.ops.length)
          else if op.isFin then op.step s
          else gatedLoop n (accessed || op.mem) (op.step s)
    | .irqReadIf => s
    | .irqReadIe => s
    | .irqPush1 => s
    | .irqPush2 => s
    | .irqJump => s
    | .stopped => s
    | .halted => s

/-- More rounds than a gated tick can take. -/
def gatedFuel : Nat := 16

/-- The idle states (10_state R31). -/
def Fsm.idle : Fsm → Bool
  | .opcode => true
  | .halted => true
  | .stopped => true
  | .extOpcode => false
  | .operand => false
  | .running => false
  | .irqReadIf => false
  | .irqReadIe => false
  | .irqPush1 => false
  | .irqPush2 => false
  | .irqJump => false

/-- The acceptance test: `state ∈ {OPCODE, HALTED, STOPPED} ∧ IME ∧ Pending()` (40_cpu_fsm R172). -/
def State.acceptsInterrupt (s : State) : Bool := s.eng.fsm.idle && s.irq.ime && s.irq.pending

/-- Leaving STOPPED by an interrupt tells the host (40_cpu_fsm R172). -/
def leaveStopped (s : State) : State := if s.eng.fsm = .stopped then s.call .enableLcd else s

/-- A gated tick in a state where no interrupt is accepted (40_cpu_fsm R170). -/
def gatedStep (s : State) : State :=
  match s.eng.fsm with
  | .irqReadIf => irqReadIf s
  | .irqReadIe => irqReadIe s
  | .irqPush1 => irqPush1 s
  | .irqPush2 => irqPush2 s
  | .irqJump => irqJump s
  | .halted =>
    if s.irq.pending then
      if s.cfg.haltWakeExtraTick then s.setFsm .opcode else gatedLoop gatedFuel false (s.setFsm .opcode)
    else s
  | .stopped => s
  | .opcode => gatedLoop gatedFuel false s
  | .extOpcode => gatedLoop gatedFuel false s
  | .operand => gatedLoop gatedFuel false s
  | .running => gatedLoop gatedFuel false s

/-- One gated tick (40_cpu_fsm R170). -/
def gatedTick (s : State) : State :=
  if s.acceptsInterrupt then irqReadIf (leaveStopped s) else gatedStep s

/-- `CpuTick()` (40_cpu_fsm R170, R171). -/
def cpuTick (s : State) : State :=
  if s.eng.faulted.isSome then s
  else if s.atGate then gatedTick (countCycle s)
  else countCycle s

/-- Whether the tick loop goes on: the machine is not faulted, which stops it as a whole (40_cpu_fsm R198; log 8), and
the host's stop flag, checked once per iteration, is clear (00_scope R15; log 23). -/
def State.loops (s : State) : Bool := s.eng.faulted.isNone && !s.host.stopFlag

/-- One iteration of the tick loop: `MachineTick()` (20_memory R120), if the loop goes on. -/
def machineTick (s : State) : State :=
  if s.loops then
    let t := preCpu s
    endTick (if t.hdmaActive then hdmaTick t else cpuTick t)
  else s

/-- Several iterations of the tick loop. -/
def ticks : Nat → State → State
  | 0, s => s
  | n + 1, s => ticks n (machineTick s)

/-- Master ticks until the engine is idle or the loop is left, at most as many as the first argument says. -/
def runToIdle : Nat → State → State
  | 0, s => s
  | n + 1, s => if s.eng.fsm.idle || !s.loops then s else runToIdle n (machineTick s)

/-! ### One step -/

/-- The gated tick of a step in an idle state, and what follows it up to the next boundary: an interrupt is taken; a
waiting CPU wakes or waits one M-cycle more; otherwise one instruction runs (40_cpu_fsm R170, R172, R174, R190). -/
def stepAtSlot (s : State) : Host.Outcome State Fault Refusal :=
  if s.irq.ime && s.irq.pending then .next (postCpu (takeInterrupt (leaveStopped s)))
  else
    match s.eng.fsm with
    | .stopped => .next (postCpu s)
    | .halted =>
      if s.irq.pending then
        if s.cfg.haltWakeExtraTick then .next (postCpu (s.setFsm .opcode)) else runInstruction (s.setFsm .opcode)
      else .next (postCpu s)
    | _ => runInstruction s

/-- What a step from `s` leaves, given what it would leave if it ran whole: where the stop flag was set in it, the loop
was left in that master tick, be it in the middle of an instruction. As many iterations as the whole step has ticks
are enough, since the ones after the flag change nothing (00_scope R15; log 23). -/
def untilStopped (s whole : State) : State :=
  if whole.host.stopFlag then ticks (whole.masterTicks - s.masterTicks) s else whole

/-- The same of an outcome. -/
def leaveLoop (s : State) (whole : Host.Outcome State Fault Refusal) : Host.Outcome State Fault Refusal :=
  match whole with
  | .next t => .next (untilStopped s t)
  | .fault r => .fault r
  | .refused r => .refused r

/-- One step of the machine: a fault if it has stopped for good; nothing while the host's stop flag is set, since the
tick loop has been left (00_scope R15; log 23); from an idle state to the end of the master tick in which the next
instruction, interrupt entry or waiting M-cycle ends; from the middle of something to its end; and never past the
master tick in which the stop flag is set. -/
def machineStep (s : State) : Host.Outcome State Fault Refusal :=
  match s.eng.faulted with
  | some u => .fault (.unknownOpcode u.byte u.pc)
  | none =>
    if s.host.stopFlag then .next s
    else if s.eng.fsm.idle then leaveLoop s (stepAtSlot (nextSlot s))
    else .next (runToIdle (8 * s.slotBound) s)

end Sys2Proof.Machine
end

