-- ==== Sys2Proof/Machine/Step.lean ====
section
/-! DEFINITION. The fixed names of one step and of placing an instruction; what they do is in Tick.lean and
Fetch.lean. -/

namespace Sys2Proof.Machine

/-- One step of the machine. -/
def step (s : State) : Host.Outcome State Fault Refusal := machineStep s

/-- The state whose next step fetches and runs the instruction a table row's number stands for (log 6, log 7). -/
def State.withFetchWord (s : State) (nbits w : Nat) : State := placeProgram s (tableWordBytes nbits w)

end Sys2Proof.Machine
end

