-- ==== Sys2Proof/Safety.lean ====
section
/-! DEFINITION. What counts as a safe run, in the words the statements use: the invariant every step keeps, the one way
a machine stops, how an instruction ends, what a store leaves alone, and the bytes a fetch reads. -/

namespace Sys2Proof.Machine

/-! ### Runs -/

/-- The low nibble of F is zero (spec/10_state.md R24). -/
def Regs.FlagsClean (r : Regs) : Prop := r.f &&& 0x0F = 0

/-- Between steps the engine is in one of its idle states (spec/10_state.md R31, spec/40_cpu_fsm.md R173), or the tick
loop has been left: for good, or, in whatever state the engine was, because the host set its stop flag. -/
def State.AtBoundary (s : State) : Prop := s.eng.fsm.idle = true ∨ s.loops = false

/-- Where an HDMA transfer writes: VRAM, or the cartridge RAM window behind it (spec/49_dma_apu.md R471, R473), so that
it reaches no register of its own. -/
def State.HdmaWithin (s : State) : Prop :=
  s.cfg.cgb = true → s.hdma.inProgress = true →
    0x8000 ≤ s.hdma.dst.toNat ∧ s.hdma.dst.toNat + 16 * (s.hdma.length.toNat + 1) ≤ 0xA800

/-- The invariant: storage in its canonical form, F's low nibble zero, the FIFO within its sixteen slots, the engine
at a boundary, an HDMA transfer within its window. -/
structure State.Inv (s : State) : Prop where
  mem : Mem.wf s.mem = true
  flags : s.regs.FlagsClean
  fifo : s.ppu.fifo.length ≤ 16
  boundary : s.AtBoundary
  hdma : s.HdmaWithin

/-- A machine that has fetched an undefined opcode byte (spec/60_exceptions.md R540, R577). -/
def State.Stuck (s : State) : Prop := s.eng.faulted.isSome = true

/-- A machine that is not stuck and that the host has not stopped, in state OPCODE, whose next gated tick accepts no
interrupt: its next step fetches an instruction (spec/40_cpu_fsm.md R170, R172; spec/00_scope.md R15). -/
structure State.Fetches (s : State) : Prop where
  running : s.eng.faulted = none
  live : s.host.stopFlag = false
  opcode : s.eng.fsm = .opcode
  quiet : ((nextSlot s).irq.ime && (nextSlot s).irq.pending) = false

/-- No DMA engine is at work: time alone then changes no memory cell. -/
def State.NoTransfer (s : State) : Prop := s.dma.transferInProgress = false ∧ s.hdma.inProgress = false

/-! ### The end of an instruction -/

/-- How an instruction ends (spec/40_cpu_fsm.md R181): `u` is the machine after the M-cycles and memory accesses the
instruction takes, with the registers as they were; `r` is the registers after it. Nothing else changes but the
engine's own state and temporaries and the IME delay counters, and every address reads as in `u`. -/
structure Ends (u : State) (r : Regs) (t : State) : Prop where
  regs : t.regs = r
  irq : t.irq = u.irq.instructionFinished u.cfg.diDelay
  engine : t.eng = { u.eng with fsm := .opcode, operandIndex := 0, ctx := t.eng.ctx, opIndex := t.eng.opIndex }
  others : t = { u with regs := t.regs, eng := t.eng, irq := t.irq }
  reads : ∀ b, memRead t b = memRead u b

/-- The instruction completes: from `s` it answers a next state, which ends it in `u` with the registers `r`. -/
def Completes (i : Instr) (s u : State) (r : Regs) : Prop := ∃ t, exec i s = .next t ∧ Ends u r t

/-! ### Stores -/

/-- What storing one byte `v` at address `a` of `u` leaves in `t`: where `a` names a memory cell, a read of `a` gives
`v` (storage being canonical) and every address that names another place reads as before; where it names a device
register, no memory cell changes; in the cartridge region only the cartridge's own state changes, and every address
outside the region reads as before, and inside it too if the cartridge is the flat ROM; elsewhere nothing changes
(spec/20_memory.md R82, R83, R87, R96). -/
def Stored (u : State) (a : Word) (v : Byte) (t : State) : Prop :=
  match place u a with
  | .cell k =>
    (Mem.wf u.mem = true → memRead t a = v) ∧ ∀ b, place u b ≠ .cell k → memRead t b = memRead u b
  | .device n => t = writeDevice u n v ∧ t.mem = u.mem
  | .cart n =>
    t = writeCart u n v ∧ ∀ b, (u.cfg.cartridge = .flatRom ∨ ∀ m, place u b ≠ .cart m) → memRead t b = memRead u b
  | .boot n =>
    t = writeCart u n v ∧ ∀ b, (u.cfg.cartridge = .flatRom ∨ ∀ m, place u b ≠ .cart m) → memRead t b = memRead u b
  | .void => t = u

/-- An instruction that stores one byte: `u` is the machine at the store. -/
def CompletesStoring (i : Instr) (s u : State) (a : Word) (v : Byte) (r : Regs) : Prop :=
  Completes i s (memWrite u a v) r ∧ Stored u a v (memWrite u a v)

/-! ### The stack -/

/-- Two bytes pushed, one M-cycle after the other, from the M-cycle of the first on, with the OAM corruption hook of
each (spec/40_cpu_fsm.md R187, R195, R196). `sp` is SP before the push. -/
def pushedWord (sp v : Word) (u : State) : State :=
  let first := memWrite (oamBug (MicroOp.causeIf sp .push1) u) (sp - 1) (hiByte v)
  memWrite (oamBug (MicroOp.causeIf (sp - 1) .push2) (nextCycle first)) (sp - 2) (loByte v)

/-- The machine after the two reads of a pop, from the M-cycle of the first on. -/
def poppedState (sp : Word) (u : State) : State :=
  oamBug (MicroOp.causeIf (sp + 1) .pop2) (nextCycle (oamBug (MicroOp.causeIf sp .pop1) u))

/-- The word those reads give: each byte as it reads after the OAM corruption hook of its own M-cycle. -/
def poppedWord (sp : Word) (u : State) : Word :=
  joinBytes (memRead (poppedState sp u) (sp + 1)) (memRead (oamBug (MicroOp.causeIf sp .pop1) u) sp)

/-- Each of the two stores of a push leaves alone what a store leaves alone. -/
def PushStores (sp v : Word) (u : State) : Prop :=
  let u1 := oamBug (MicroOp.causeIf sp .push1) u
  let w1 := memWrite u1 (sp - 1) (hiByte v)
  let u2 := oamBug (MicroOp.causeIf (sp - 1) .push2) (nextCycle w1)
  Stored u1 (sp - 1) (hiByte v) w1 ∧ Stored u2 (sp - 2) (loByte v) (memWrite u2 (sp - 2) (loByte v)) ∧
    pushedWord sp v u = memWrite u2 (sp - 2) (loByte v)

/-! ### Timing -/

/-- The M-cycles of an instruction, its condition taken or not, as the table of spec/70_reset_and_hazards.md R650 gives
them; an undefined byte stops the machine in its first. -/
def Form.cycles (f : Form) (taken : Bool) : Nat :=
  match f with
  | .ldRR _ _ => 1
  | .aluR _ _ => 1
  | .incR _ => 1
  | .decR _ => 1
  | .daa => 1
  | .cpl => 1
  | .scf => 1
  | .ccf => 1
  | .rlca => 1
  | .rrca => 1
  | .rla => 1
  | .rra => 1
  | .jpHl => 1
  | .nop => 1
  | .di => 1
  | .ei => 1
  | .halt => 1
  | .illegal _ => 1
  | .ldRD8 _ _ => 2
  | .ldRHl _ => 2
  | .ldHlR _ => 2
  | .ldABc => 2
  | .ldADe => 2
  | .ldBcA => 2
  | .ldDeA => 2
  | .ldACMem => 2
  | .ldCMemA => 2
  | .ldHlIncA => 2
  | .ldHlDecA => 2
  | .ldAHlInc => 2
  | .ldAHlDec => 2
  | .aluHl _ => 2
  | .aluD8 _ _ => 2
  | .addHlRr _ => 2
  | .incRr _ => 2
  | .decRr _ => 2
  | .ldSpHl => 2
  | .shiftR _ _ => 2
  | .bitR _ _ => 2
  | .resR _ _ => 2
  | .setR _ _ => 2
  | .stop _ => 2
  | .ldHlD8 _ => 3
  | .ldhAA8 _ => 3
  | .ldhA8A _ => 3
  | .ldRrD16 _ _ => 3
  | .ldHlSpR8 _ => 3
  | .pop _ => 3
  | .incHlMem => 3
  | .decHlMem => 3
  | .bitHl _ => 3
  | .jr _ => 3
  | .ldAA16 _ => 4
  | .ldA16A _ => 4
  | .push _ => 4
  | .addSpR8 _ => 4
  | .shiftHl _ => 4
  | .resHl _ => 4
  | .setHl _ => 4
  | .jp _ => 4
  | .ret => 4
  | .reti => 4
  | .rst _ => 4
  | .ldA16Sp _ => 5
  | .call _ => 6
  | .jrCc _ _ => if taken then 3 else 2
  | .jpCc _ _ => if taken then 4 else 3
  | .callCc _ _ => if taken then 6 else 3
  | .retCc _ => if taken then 5 else 2

/-- Whether a conditional instruction's condition holds; true of the others. -/
def Form.taken (f : Form) (g : Flags) : Bool :=
  match f with
  | .jrCc cc _ => g.holds cc
  | .jpCc cc _ => g.holds cc
  | .callCc cc _ => g.holds cc
  | .retCc cc => g.holds cc
  | _ => true

/-- The addresses an instruction stores to before its last M-cycle. -/
def Form.earlyStores (f : Form) (taken : Bool) (r : Regs) : List Word :=
  match f with
  | .ldA16Sp nn => [nn]
  | .push _ => [r.sp - 1]
  | .call _ => [r.sp - 1]
  | .callCc _ _ => if taken then [r.sp - 1] else []
  | .rst _ => [r.sp - 1, r.sp - 2]
  | _ => []

/-- The CPU has the bus for the whole of an instruction: on a DMG always; on a CGB, no HDMA transfer is in progress and
the instruction starts none (by a store to HDMA5) before its last M-cycle. -/
def State.KeepsBus (s : State) (f : Form) : Prop :=
  s.cfg.cgb = true → s.hdma.inProgress = false ∧ 0xFF55 ∉ f.earlyStores (f.taken s.regs.flags) s.regs

/-! ### Fetching -/

/-- The three bytes that a fetch beginning in the gated tick `u` can read, each in its own M-cycle (spec/20_memory.md
R113); after the halt bug the first one is read twice (spec/47_system.md R381). -/
def fetchedBytes (u : State) : List Byte :=
  let p := if u.eng.haltBugMode then u.regs.pc else u.regs.pc + 1
  [memRead u u.regs.pc, memRead (nextCycle u) p, memRead (nextCycle (nextCycle u)) (p + 1)]

/-- The machine when an instruction's last byte has been read: one M-cycle per byte after the first. -/
def afterBytes : Nat → State → State
  | 0, u => u
  | n + 1, u => afterBytes n (nextCycle u)

end Sys2Proof.Machine
end

