-- ==== Sys2Proof/Certificates/Slice0/Obligations.lean ====
section
/-! DEFINITION. The statements about the machine, one `def Obligations.<Name> : Prop` each; OBLIGATIONS.json lists them.
A statement about an instruction speaks of every constructor of `Instr` whose form (Machine/Form.lean) it names. -/

section

open Sys2Proof Sys2Proof.Machine

/-! ### Encoding (spec/30_encoding.md) -/

/-- Decoding the bytes of a well-formed instruction, whatever follows them, gives it back with the bytes that follow
(30_encoding R131 to R145). -/
def Obligations.DecodeEncodeRoundTrip : Prop :=
  ∀ (i : Instr) (rest : List Byte), i.wf = true → decode (encode i ++ rest) = .ok (i, rest)

/-- Every byte string of three bytes or more decodes, to a well-formed instruction, and encoding that instruction gives
back exactly the bytes consumed (30_encoding R133, R134; 47_system R385 for the undefined bytes). -/
def Obligations.EncodeDecodeRoundTrip : Prop :=
  (∀ (bytes rest : List Byte) (i : Instr), decode bytes = .ok (i, rest) → encode i ++ rest = bytes ∧ i.wf = true) ∧
  ∀ (b0 b1 b2 : Byte) (rest : List Byte), ∃ i r, decode (b0 :: b1 :: b2 :: rest) = .ok (i, r)

/-- Words written out from the encodings of the spec decode to the instructions they stand for: one of each family
(30_encoding R139 to R145). -/
def Obligations.SpecWordsDecode : Prop :=
  decode [0x41] = .ok (.ldBC, []) ∧
  decode [0x3E, 0x9C] = .ok (.ldAD8 0x9C, []) ∧
  decode [0x21, 0x34, 0x12] = .ok (.ldHlD16 0x1234, []) ∧
  decode [0x08, 0x00, 0xC1] = .ok (.ldAtA16Sp 0xC100, []) ∧
  decode [0xF8, 0xFE] = .ok (.ldHlSpR8 (-2), []) ∧
  decode [0xE0, 0x0F] = .ok (.ldhAtA8A 0x0F, []) ∧
  decode [0x8E] = .ok (.adcAtHl, []) ∧
  decode [0x34] = .ok (.incAtHl, []) ∧
  decode [0x39] = .ok (.addHlSp, []) ∧
  decode [0xF1] = .ok (.popAf, []) ∧
  decode [0x18, 0xFE] = .ok (.jrR8 (-2), []) ∧
  decode [0xDA, 0x50, 0x01] = .ok (.jpCA16 0x0150, []) ∧
  decode [0xDF] = .ok (.rst18, []) ∧
  decode [0x10, 0x00] = .ok (.stop 0x00, []) ∧
  decode [0xCB, 0x37] = .ok (.swapA, []) ∧
  decode [0xCB, 0x7E] = .ok (.bit7AtHl, []) ∧
  decode [0xCB, 0x98] = .ok (.res3B, []) ∧
  decode [0xCB, 0xE5] = .ok (.set4L, []) ∧
  decode [0xD3] = .ok (.illegalD3, [])

/-! ### Fetch and step (spec/40_cpu_fsm.md) -/

/-- A step runs the decoded instruction: in a state whose next step fetches, if the bytes fetched, each read in its own
M-cycle, decode to `i`, the step is `exec i` at the state after the fetch, and then the rest of that master tick for
the other agents; or, if the host's stop flag is set in it, the master ticks up to that one (`untilStopped`)
(40_cpu_fsm R175 to R180; 00_scope R15; assumption log 2 for what a step is). -/
def Obligations.StepRunsFetchedInstruction : Prop :=
  ∀ (s : State) (i : Instr) (rest : List Byte), s.Fetches → decode (fetchedBytes (nextSlot s)) = .ok (i, rest) →
    step s =
      match exec i (fetch (nextSlot s)) with
      | .next t => .next (untilStopped s (endTick t))
      | .fault r => .fault r
      | .refused r => .refused r

/-- What the fetch of a defined instruction leaves: pc past its bytes (one byte less after the halt bug, which is
cleared), one M-cycle gone per byte after the first, the micro-op index and the context cleared, the engine in state
RUNNING; every other register as before (40_cpu_fsm R175 to R178). -/
def Obligations.FetchAdvancesPc : Prop :=
  ∀ (u : State) (i : Instr) (rest : List Byte), decode (fetchedBytes u) = .ok (i, rest) → (∀ b, form i ≠ .illegal b) →
    (fetch u).regs =
      { u.regs with
        pc := u.regs.pc + BitVec.ofNat 16 ((encode i).length - if u.eng.haltBugMode then 1 else 0) } ∧
    fetch u = { afterBytes ((encode i).length - 1) u with regs := (fetch u).regs, eng := (fetch u).eng } ∧
    (fetch u).eng.fsm = .running ∧ (fetch u).eng.haltBugMode = false ∧ (fetch u).eng.opIndex = 0 ∧
    (fetch u).eng.ctx = 0 ∧ (fetch u).eng.faulted = u.eng.faulted ∧ (fetch u).eng.irqSel = u.eng.irqSel

/-- After `UnknownOpcode` the machine is stuck for good (60_exceptions R540, R577). That no master tick changes any agent
of it, and that a step answers a fault that carries the byte and its address, is the model's choice (assumption log
8). -/
def Obligations.StuckMachineStaysStuck : Prop :=
  ∀ (s : State) (u : UnknownOpcode), s.eng.faulted = some u →
    machineTick s = s ∧ step s = .fault (.unknownOpcode u.byte u.pc)

/-- An undefined opcode byte raises `UnknownOpcode`: as an instruction it records the byte and pc in `faulted` and
changes nothing else; a step that fetches one leaves every register, IME, the interrupt registers and memory as they
were at the fetch, with pc at the byte, unless the host's stop flag ends it first (47_system R385, 60_exceptions R540;
00_scope R15). -/
def Obligations.UndefinedOpcodeRaises : Prop :=
  (∀ (i : Instr) (b : Byte) (s : State), form i = .illegal b →
    exec i s = .next { s with eng := { s.eng with faulted := some { byte := b, pc := s.regs.pc } } }) ∧
  (∀ (i : Instr), (∃ b, form i = .illegal b) ↔
    encode i ∈ ([[0xD3], [0xDB], [0xDD], [0xE3], [0xE4], [0xEB], [0xEC], [0xED], [0xF4], [0xFC], [0xFD]] : List (List Byte))) ∧
  ∀ (s : State), s.Fetches → Decode.isUndefined (memRead (nextSlot s) s.regs.pc) = true →
    ∃ t, step s = .next (untilStopped s t) ∧
      t.eng.faulted = some { byte := memRead (nextSlot s) s.regs.pc, pc := s.regs.pc } ∧
      t = { nextSlot s with eng := t.eng } ∧ t.regs = s.regs

/-! ### Interrupts (spec/60_exceptions.md, spec/40_cpu_fsm.md) -/

/-- `Pending()`: some source is both requested and enabled; IME does not matter (R552). -/
def Obligations.PendingMeansRequestedAndEnabled : Prop :=
  ∀ (q : IrqCtl) (ime : Bool),
    (q.pending = true ↔ ∃ i, i < 5 ∧ bitAt q.readIf i = true ∧ bitAt q.ie i = true) ∧
    ({ q with ime := ime } : IrqCtl).pending = q.pending

/-- An interrupt is taken at the gated tick of a step from OPCODE, HALTED or STOPPED when IME is set and a request is
pending there: the step is then the interrupt sequence, after the host has been told to switch the LCD on
if the CPU was stopped, as far as the host's stop flag lets it run
(40_cpu_fsm R172, 60_exceptions R565; 00_scope R15). -/
def Obligations.InterruptAccepted : Prop :=
  ∀ (s : State), s.eng.faulted = none → s.host.stopFlag = false →
    s.eng.fsm = .opcode ∨ s.eng.fsm = .halted ∨ s.eng.fsm = .stopped →
    (nextSlot s).irq.ime = true → (nextSlot s).irq.pending = true →
    step s = .next (untilStopped s (postCpu (takeInterrupt (leaveStopped (nextSlot s))))) ∧
      leaveStopped (nextSlot s) =
        if s.eng.fsm = .stopped then
          { nextSlot s with host := { (nextSlot s).host with calls := .enableLcd :: (nextSlot s).host.calls } }
        else nextSlot s

/-- The five steps of the interrupt sequence, one M-cycle each. IF is read in the first and IE in the second; if a
source `i` is set in both, its IF bit is cleared in the live register, IME is cleared and the delay counters are idled
in the second; pc is pushed, high byte first, in the third and fourth; pc is the vector of `i` in the fifth. Every other
register keeps its value. With no source set in both the sequence ends after the second step: nothing is pushed, and pc,
sp and IME keep their values (60_exceptions R565 to R570). -/
def Obligations.InterruptSequence : Prop :=
  (∀ (s : State), IrqCtl.select (memRead s 0xFF0F) (memRead (nextCycle s) 0xFFFF) = none →
    (takeInterrupt s).regs = s.regs ∧ (takeInterrupt s).irq = (nextCycle s).irq ∧
    (takeInterrupt s).eng.fsm = .opcode ∧ (takeInterrupt s).mem = (nextCycle s).mem) ∧
  ∀ (s : State) (i : Irq),
    IrqCtl.select (memRead s 0xFF0F) (memRead (nextCycle s) 0xFFFF) = some i →
    let second := nextCycle s
    let acknowledged := second.setIrq
      { ime := false, pendingEnable := .idle, pendingDisable := .idle
        ifFlags := second.irq.ifFlags &&& ~~~(1#5 <<< i.number), ie := second.irq.ie }
    let pushedHi := memWrite (nextCycle acknowledged) (s.regs.sp - 1) (hiByte s.regs.pc)
    let pushedLo := memWrite (nextCycle pushedHi) (s.regs.sp - 2) (loByte s.regs.pc)
    let t := takeInterrupt s
    t.regs = { s.regs with sp := s.regs.sp - 2, pc := BitVec.ofNat 16 (0x0040 + 8 * i.number) } ∧
    t.eng.fsm = .opcode ∧ t.eng.irqSel = none ∧
    t = { nextCycle pushedLo with regs := t.regs, eng := t.eng } ∧
    Stored (nextCycle acknowledged) (s.regs.sp - 1) (hiByte s.regs.pc) pushedHi ∧
    Stored (nextCycle pushedHi) (s.regs.sp - 2) (loByte s.regs.pc) pushedLo

/-- Among simultaneous requests the lowest-numbered source is serviced, and its vector is 0x0040 + 8 times its number:
VBlank, LCDC, Timer, Serial, Joypad (60_exceptions R550, R554). -/
def Obligations.InterruptPriority : Prop :=
  (∀ (f e : Byte) (i : Irq), IrqCtl.select f e = some i ↔
    ((bitAt f i.number = true ∧ bitAt e i.number = true) ∧
      ∀ j : Irq, j.number < i.number → ¬ (bitAt f j.number = true ∧ bitAt e j.number = true))) ∧
  (∀ (f e : Byte), IrqCtl.select f e = none ↔ ∀ j : Irq, ¬ (bitAt f j.number = true ∧ bitAt e j.number = true)) ∧
  [Irq.vblank, .lcdc, .timer, .serial, .joypad].map Irq.vector = [0x0040, 0x0048, 0x0050, 0x0058, 0x0060]

/-- EI and DI take effect one instruction late: the request sets a counter, which the end of that instruction and the
end of the next one step; without the delay IME changes at once; each request cancels the other; a second request does
not restart the counter (60_exceptions R561 to R564). -/
def Obligations.ImeDelays : Prop :=
  (∀ (q : IrqCtl) (d : Bool), q.pendingEnable = .idle →
    ((q.enable true).instructionFinished d).ime = q.ime ∧
    (((q.enable true).instructionFinished d).instructionFinished d) =
      { q with ime := true, pendingEnable := .idle, pendingDisable := .idle }) ∧
  (∀ (q : IrqCtl), q.pendingDisable = .idle →
    ((q.disable true true).instructionFinished true).ime = q.ime ∧
    (((q.disable true true).instructionFinished true).instructionFinished true) =
      { q with ime := false, pendingEnable := .idle, pendingDisable := .idle }) ∧
  (∀ (q : IrqCtl), q.disable false true = { q with ime := false, pendingEnable := .idle, pendingDisable := .idle }) ∧
  (∀ (q : IrqCtl), q.enable false = { q with ime := true, pendingEnable := .idle, pendingDisable := .idle }) ∧
  (∀ (q : IrqCtl) (d : Bool), q.disable d false = { q with ime := false, pendingEnable := .idle, pendingDisable := .idle }) ∧
  (∀ (q : IrqCtl), (q.enable true).pendingDisable = .idle ∧ (q.disable true true).pendingEnable = .idle) ∧
  (∀ (q : IrqCtl), q.pendingEnable ≠ .idle → (q.enable true).pendingEnable = q.pendingEnable) ∧
  (∀ (q : IrqCtl), q.pendingDisable ≠ .idle → (q.disable true true).pendingDisable = q.pendingDisable) ∧
  (∀ (q : IrqCtl) (d : Bool), q.pendingEnable = .idle → q.pendingDisable = .idle → q.instructionFinished d = q)

/-- A halted CPU waits, one M-cycle a step, while nothing is pending; with IME clear a pending request resumes it in
OPCODE without servicing the interrupt, in the same gated tick or, with `haltWakeExtraTick`, in the next.
A stopped CPU with IME clear, or with nothing pending, stays stopped, whatever is requested
(40_cpu_fsm R174, R190; 60_exceptions R575, R576). The host's stop flag is checked in every iteration of the tick loop:
a machine whose flag is set does not tick and takes no step; a step in which it is set ends with that
master tick, wherever the CPU then is, and every iteration before it found the flag clear; and a step
that leaves the flag clear is the whole one (00_scope R15; which iteration an event falls in is the model's choice,
log 23). -/
def Obligations.WaitingCpu : Prop :=
  (∀ (s : State), s.eng.faulted = none → s.host.stopFlag = true → machineTick s = s ∧ step s = .next s) ∧
  (∀ (s t : State), s.HdmaWithin → s.eng.fsm.idle = true → s.host.stopFlag = false → step s = .next t →
    t.host.stopFlag = true →
    ∃ n, t = ticks (n + 1) s ∧ ∀ m, m ≤ n → (ticks m s).host.stopFlag = false ∧ (ticks m s).eng.faulted = none) ∧
  (∀ (s t : State), t.host.stopFlag = false → untilStopped s t = t) ∧
  (∀ (s : State), s.eng.faulted = none → s.host.stopFlag = false → s.eng.fsm = .stopped →
    ((nextSlot s).irq.ime && (nextSlot s).irq.pending) = false →
    ∃ t, step s = .next (untilStopped s t) ∧ t = postCpu (nextSlot s) ∧ t.eng.fsm = .stopped ∧ t.regs = s.regs ∧ t.irq.ime = s.irq.ime) ∧
  ∀ (s : State), s.eng.faulted = none → s.host.stopFlag = false → s.eng.fsm = .halted →
    ((nextSlot s).irq.pending = false →
      step s = .next (untilStopped s (postCpu (nextSlot s))) ∧ (postCpu (nextSlot s)).regs = s.regs ∧
      (postCpu (nextSlot s)).eng.fsm = .halted) ∧
    ((nextSlot s).irq.pending = true → (nextSlot s).irq.ime = false →
      (s.cfg.haltWakeExtraTick = true → 
        step s = .next (untilStopped s (postCpu ((nextSlot s).setFsm .opcode)))) ∧
      (s.cfg.haltWakeExtraTick = false → step s = leaveLoop s (runInstruction ((nextSlot s).setFsm .opcode))))

/-! ### The passage of time (spec/20_memory.md R120, R121) -/

/-- The M-cycle that passes between two gated ticks of an instruction leaves the CPU alone: its registers, IME and its
delay counters, the speed, and of the engine everything but the sub-cycle counter. It is 4 master ticks at normal
speed and 2 at double speed, while HDMA does not hold the bus (20_memory R120, 40_cpu_fsm R171). -/
def Obligations.MCyclePasses : Prop :=
  (∀ (s : State), s.hdma.inProgress = false → s.eng.clockCycle = 0 →
    (nextCycle s).masterTicks = s.masterTicks + (if s.spd.speed = .normal then 4 else 2) ∧
    (nextCycle s).eng.clockCycle = 0) ∧
  ∀ (s : State), (nextCycle s).regs = s.regs ∧ (nextCycle s).irq.ime = s.irq.ime ∧
    (nextCycle s).irq.pendingEnable = s.irq.pendingEnable ∧ (nextCycle s).irq.pendingDisable = s.irq.pendingDisable ∧
    (nextCycle s).spd.speed = s.spd.speed ∧ (nextCycle s).cfg = s.cfg ∧
    (nextCycle s).eng = { s.eng with clockCycle := (nextCycle s).eng.clockCycle }

/-- With no OAM DMA and no HDMA transfer in progress, time changes no memory cell and not the cartridge: the two DMA
engines are the only agents besides the CPU that write memory (20_memory R96, R115, 49_dma_apu R462, R473). -/
def Obligations.QuietTimeKeepsMemory : Prop :=
  ∀ (s : State), s.NoTransfer → (nextCycle s).mem = s.mem ∧ (nextSlot s).mem = s.mem ∧ (postCpu s).mem = s.mem ∧
    (nextCycle s).NoTransfer ∧ (nextCycle s).cart = s.cart ∧ (nextSlot s).cart = s.cart ∧ (postCpu s).cart = s.cart

/-- A master tick ticks the agents in their order: the host's events, the timer, HDMA or the CPU, OAM DMA, sound, serial
port, PPU; nothing after the CPU in the tick that faults (log 8). And a step is a run of master ticks: from an idle state that is not faulted, with an HDMA transfer, if there is one,
within its window (an invariant, StepKeepsInvariant), what a step answers is what `MachineTick`, repeated, leads to. So
running an instruction's M-cycles one after the other, with the other agents in between and HDMA in the CPU's place, is
the tick-by-tick machine of the spec (20_memory R120, R121; 40_cpu_fsm R170 to R185; what a step is: log 2, the model's
choice). -/
def Obligations.StepIsMasterTicks : Prop :=
  (∀ (s : State), s.eng.faulted = none → s.host.stopFlag = false →
    let t := timerTick (applyEvents s)
    let u := if t.hdmaActive then hdmaTick t else cpuTick t
    machineTick s = if u.eng.faulted = none then ppuTick (serialTick (soundTick (dmaTick u))) else u) ∧
  ∀ (s t : State), s.HdmaWithin → s.eng.fsm.idle = true → s.eng.faulted = none → step s = .next t →
    ∃ n, ticks n s = t

/-- Every defined instruction takes the M-cycles of the timing table, taken or not, in both variants and at both speeds:
the master ticks from the boundary before it to the boundary after it are that many times 4, or 2 at double speed
(70_reset_and_hazards R650), while the CPU keeps the bus (on a CGB, while no HDMA transfer is in progress and the
instruction starts none before its last M-cycle) and the host does not stop the machine in the middle of it. -/
def Obligations.InstructionTiming : Prop :=
  ∀ (s t : State) (i : Instr) (rest : List Byte), s.Fetches → s.KeepsBus (form i) → s.eng.clockCycle = 0 →
    decode (fetchedBytes (nextSlot s)) = .ok (i, rest) → (∀ b, form i ≠ .illegal b) → step s = .next t →
    t.host.stopFlag = false →
    t.masterTicks = s.masterTicks +
      (form i).cycles ((form i).taken s.regs.flags) * (if s.spd.speed = .normal then 4 else 2) ∧
    t.eng.clockCycle = 0

/-! ### Whole-machine rules -/

/-- Every step keeps the invariant: storage stays in its canonical form, F's low nibble stays zero, the pixel FIFO keeps
to its sixteen slots, the engine is idle or out of the tick loop between steps, and an HDMA transfer writes VRAM or the cartridge RAM
window behind it (10_state R24, R31; 48_ppu R430; 49_dma_apu R471, R473). -/
def Obligations.StepKeepsInvariant : Prop :=
  ∀ (s t : State), s.Inv → step s = .next t → t.Inv

/-- The invariant holds at reset, in every variant. -/
def Obligations.ResetMeetsInvariant : Prop :=
  State.reset.Inv ∧ ∀ c : Config, (State.resetWith c).Inv

/-- Only EI, DI, RETI and their delayed effects, and the interrupt sequence, change IME: a step that fetches any other
instruction while no delayed effect is due keeps it, once it has run to its end (60_exceptions R560 to R563, R590). -/
def Obligations.OnlyInterruptInstructionsChangeIme : Prop :=
  ∀ (s t : State) (i : Instr) (rest : List Byte), s.Fetches → decode (fetchedBytes (nextSlot s)) = .ok (i, rest) →
    s.irq.pendingEnable = .idle → s.irq.pendingDisable = .idle → form i ≠ .ei → form i ≠ .di → form i ≠ .reti →
    step s = .next t → t.host.stopFlag = false →
    t.irq.ime = s.irq.ime ∧ t.irq.pendingEnable = .idle ∧ t.irq.pendingDisable = .idle

/-- Every instruction, in every state, answers a next state, in the hardware variant it started in (00_scope R8): nothing
in this machine traps but the undefined bytes (60_exceptions R541). That these answer a next state, the stuck one, is
the model's choice (log 8). -/
def Obligations.EveryInstructionCompletes : Prop :=
  ∀ (i : Instr) (s : State), ∃ t, exec i s = .next t ∧
    ((∀ b, form i ≠ .illegal b) → t.eng.faulted = s.eng.faulted) ∧ t.cfg = s.cfg

/-! ### Memory (spec/20_memory.md) -/

/-- A read after a write to a memory cell gives the value written, and every address that names another place reads as
before; the write changes nothing but that cell (20_memory R80, R82). -/
def Obligations.MemoryReadAfterWrite : Prop :=
  ∀ (s : State) (a : Word) (v : Byte) (k : Nat), Mem.wf s.mem = true → place s a = .cell k →
    memRead (memWrite s a v) a = v ∧
    (∀ b, place s b ≠ .cell k → memRead (memWrite s a v) b = memRead s b) ∧
    memWrite s a v = { s with mem := (memWrite s a v).mem }

/-- Storage has one canonical form: a write keeps it, and two canonical lists with the same contents are the same list
(the model's own representation, assumption log 3). -/
def Obligations.MemoryCanonicalForm : Prop :=
  (∀ (m : List Host.Cell) (k : Nat) (v : Byte), Mem.wf m = true → Mem.wf (Mem.write m k v) = true) ∧
  ∀ (m m' : List Host.Cell), Mem.wf m = true → Mem.wf m' = true → (∀ k, Mem.read m k = Mem.read m' k) → m = m'

/-- The regions of the memory map. Echo RAM, 0xE000 to 0xFDFF, is the work RAM 0x2000 below, for reads and for writes,
in every bank. An address of no region, 0xFEA0 to 0xFEFF and the unmapped device addresses, reads 0xFF and drops
writes. HRAM is plain cells. A write to the cartridge region changes the cartridge's own state and nothing else; the
flat ROM reads its bytes, has nothing at 0xA000 to 0xBFFF, and ignores writes (that this is the cartridge of
`State.reset` is the model's choice, log 4). The boot ROM overlay, while enabled, covers reads of 0x0000 to 0x00FF and,
on a CGB, 0x0200 to 0x08FF, and no write; any write to 0xFF50 removes it, and 0xFF50 reads 0xFF
(20_memory R83, R86, R87, R91, R93 to R96). -/
def Obligations.MemoryRegions : Prop :=
  (∀ (s : State) (a : Word), 0xE000 ≤ a.toNat → a.toNat < 0xFE00 →
    memRead s a = memRead s (a - 0x2000) ∧ ∀ v, memWrite s a v = memWrite s (a - 0x2000) v) ∧
  (∀ (s : State) (a : Word), (0xFEA0 ≤ a.toNat ∧ a.toNat < 0xFF00) ∨ a = 0xFF03 ∨ (0xFF08 ≤ a.toNat ∧ a.toNat ≤ 0xFF0E) ∨
      (0xFF27 ≤ a.toNat ∧ a.toNat ≤ 0xFF2F) ∨ a = 0xFF4C ∨ a = 0xFF4E ∨ (0xFF56 ≤ a.toNat ∧ a.toNat ≤ 0xFF67) ∨
      (0xFF6C ≤ a.toNat ∧ a.toNat ≤ 0xFF6F) ∨ (0xFF71 ≤ a.toNat ∧ a.toNat ≤ 0xFF7F) ∨
      (s.cfg.cgb = false ∧ (a = 0xFF4D ∨ a = 0xFF4F ∨ (0xFF51 ≤ a.toNat ∧ a.toNat ≤ 0xFF55) ∨
        (0xFF68 ≤ a.toNat ∧ a.toNat ≤ 0xFF6B) ∨ a = 0xFF70)) →
    memRead s a = 0xFF ∧ ∀ v, memWrite s a v = s) ∧
  (∀ (s : State) (a : Word), 0xFF80 ≤ a.toNat → a.toNat < 0xFFFF →
    memRead s a = Mem.read s.mem a.toNat ∧ ∀ v, memWrite s a v = { s with mem := Mem.write s.mem a.toNat v }) ∧
  (∀ (s : State) (a : Word) (v : Byte), a.toNat < 0x8000 ∨ (0xA000 ≤ a.toNat ∧ a.toNat < 0xC000) →
    memWrite s a v = { s with cart := (memWrite s a v).cart } ∧
    (s.cfg.cartridge = .flatRom → memWrite s a v = s)) ∧
  (∀ (s : State) (a : Word), s.cfg.cartridge = .flatRom →
    (0xA000 ≤ a.toNat → a.toNat < 0xC000 → memRead s a = 0xFF) ∧
    (a.toNat < 0x8000 → s.bootRomEnabled = false → memRead s a = Mem.read s.mem a.toNat)) ∧
  (∀ (s : State) (a : Word) (v : Byte), s.bootRomEnabled = true →
    (a.toNat < 0x100 ∨ (s.cfg.cgb = true ∧ 0x200 ≤ a.toNat ∧ a.toNat < 0x900) →
      (∀ b, s.cfg.bootRom[a.toNat]? = some b → memRead s a = b) ∧
      (memWrite s a v).cart = (memWrite { s with bootRomEnabled := false } a v).cart) ∧
    ((0x100 ≤ a.toNat ∧ a.toNat < 0x200) ∨ 0x900 ≤ a.toNat ∨ (s.cfg.cgb = false ∧ 0x100 ≤ a.toNat) →
      memRead s a = memRead { s with bootRomEnabled := false } a)) ∧
  (∀ (s : State), memRead s 0xFF50 = 0xFF ∧ ∀ v, memWrite s 0xFF50 v = { s with bootRomEnabled := false })

/-- The banks of the CGB: SVBK selects the work RAM bank shown at 0xD000 to 0xDFFF, a 0 selecting bank 1, and VBK the
VRAM bank; different banks are different cells; on a DMG neither register exists and there is one bank
(20_memory R88, R90). -/
def Obligations.RamBanks : Prop :=
  (∀ (s : State) (a : Word) (n : BitVec 3), 0xD000 ≤ a.toNat → a.toNat < 0xE000 → s.cfg.cgb = true →
    place { s with svbk := n } a = .cell ((max 1 n.toNat - 1) * 0x10000 + a.toNat)) ∧
  (∀ (s : State) (a : Word), 0xC000 ≤ a.toNat → a.toNat < 0xD000 → place s a = .cell a.toNat) ∧
  (∀ (s : State) (a : Word) (n : BitVec 1), 0x8000 ≤ a.toNat → a.toNat < 0xA000 → s.cfg.cgb = true →
    s.cfg.ppuBlocksCpu = false →
    place { s with ppu := { s.ppu with vbk := n } } a = .cell (n.toNat * 0x10000 + a.toNat)) ∧
  (∀ (s : State) (a : Word), s.cfg.cgb = false → s.cfg.ppuBlocksCpu = false →
    (0x8000 ≤ a.toNat ∧ a.toNat < 0xA000) ∨ (0xC000 ≤ a.toNat ∧ a.toNat < 0xE000) → place s a = .cell a.toNat) ∧
  (∀ (s : State), s.cfg.cgb = false → memRead s 0xFF70 = 0xFF ∧ memRead s 0xFF4F = 0xFF) ∧
  (∀ (s : State) (v : Byte), s.cfg.cgb = true →
    (memWrite s 0xFF70 v).svbk = v.setWidth 3 ∧ memRead (memWrite s 0xFF70 v) 0xFF70 = v ||| 0xF8 ∧
    (memWrite s 0xFF4F v).ppu.vbk = v.setWidth 1 ∧ memRead (memWrite s 0xFF4F v) 0xFF4F = v ||| 0xFE)

/-- While OAM DMA blocks OAM, its 160 addresses read 0xFF and writes to them are dropped; it blocks from
`dmaBlockAfter` ticks after the write to 0xFF46 on, or at once if one was already blocking; every other memory stays
accessible. With the parameter `ppuBlocksCpu` the CPU also finds VRAM, and OAM, closed in some PPU modes; the DMA
engines do not (20_memory R92; 49_dma_apu R461, R464, R465; 48_ppu R448). -/
def Obligations.OamBlockedDuringDma : Prop :=
  (∀ (s : State) (a : Word), s.oamBlocked = true → 0xFE00 ≤ a.toNat → a.toNat < 0xFEA0 →
    memRead s a = 0xFF ∧ ∀ v, memWrite s a v = s) ∧
  (∀ (s : State) (a : Word), s.oamBlocked = false → s.cfg.ppuBlocksCpu = false → 0xFE00 ≤ a.toNat → a.toNat < 0xFEA0 →
    place s a = .cell a.toNat) ∧
  (∀ (s : State), s.oamBlocked =
    (s.dma.restarted || (s.dma.transferInProgress && decide (s.cfg.dmaBlockAfter ≤ s.dma.dmaTicks)))) ∧
  (∀ (s : State) (v : Byte), (memWrite s 0xFF46 v).dma =
    { dmaReg := v, transferInProgress := true, restarted := s.oamBlocked, source := joinBytes v 0, dmaTicks := 0 }) ∧
  (∀ (s : State) (d : Dma) (a : Word), a.toNat < 0xFE00 ∨ 0xFEA0 ≤ a.toNat → place { s with dma := d } a = place s a) ∧
  (∀ (s : State) (a : Word), s.cfg.ppuBlocksCpu = true → s.ppu.lcdEnabled = true →
    (0x8000 ≤ a.toNat ∧ a.toNat < 0xA000 ∧ s.ppu.mode = .pixelTransfer) ∨
      (0xFE00 ≤ a.toNat ∧ a.toNat < 0xFEA0 ∧ (s.ppu.mode = .oamSearch ∨ s.ppu.mode = .pixelTransfer)) →
    memRead s a = 0xFF ∧ ∀ v, memWrite s a v = s) ∧
  (∀ (s : State) (a : Word), mmuRead s a = memRead { s with cfg := { s.cfg with ppuBlocksCpu := false } } a)

/-- The interrupt registers and KEY1: a write to IF keeps its low five bits and a read shows the upper three as 1; IE
holds eight bits; a write to KEY1 (CGB) arms the speed switch by bit 0 and a read shows the speed in bit 7
(10_state R39, R40, R41). -/
def Obligations.InterruptRegisters : Prop :=
  (∀ (s : State) (v : Byte), (memWrite s 0xFF0F v).irq = { s.irq with ifFlags := v.setWidth 5 } ∧
    memRead (memWrite s 0xFF0F v) 0xFF0F = v ||| 0xE0) ∧
  (∀ (s : State) (v : Byte), (memWrite s 0xFFFF v).irq = { s.irq with ie := v } ∧
    memRead (memWrite s 0xFFFF v) 0xFFFF = v) ∧
  (∀ (s : State) (v : Byte), s.cfg.cgb = true →
    (memWrite s 0xFF4D v).spd = { s.spd with prepareSwitch := bitAt v 0 } ∧
    memRead s 0xFF4D = (if s.spd.speed = .double then 0xFE else 0x7E) ||| (if s.spd.prepareSwitch then 1 else 0)) ∧
  (∀ (s : State), s.cfg.cgb = false → memRead s 0xFF4D = 0xFF ∧ ∀ v, memWrite s 0xFF4D v = s)

/-- The OAM corruption hook changes nothing outside the window of the rule, and inside it nothing but the 160 cells of
OAM; what those hold then is a free value (40_cpu_fsm R195, R196; assumption log 9). -/
def Obligations.OamBugFrame : Prop :=
  (∀ (s : State) (k : Option OamCause),
    s.ppu.lcdEnabled = false ∨ s.ppu.mode ≠ .oamSearch ∨ 79 ≤ s.ppu.ticksInLine ∨ k = none → oamBug k s = s) ∧
  (∀ (s : State) (k : Option OamCause), oamBug k s = { s with mem := (oamBug k s).mem } ∧
    ∀ b : Word, b.toNat < 0xFE00 ∨ 0xFEA0 ≤ b.toNat → memRead (oamBug k s) b = memRead s b) ∧
  (∀ (a : Word) (k : OamCause), MicroOp.causeIf a k = if 0xFE00 ≤ a.toNat ∧ a.toNat ≤ 0xFEFF then some k else none)

/-! ### Reset (spec/70_reset_and_hazards.md) -/

/-- What reset leaves, post-boot and cold: the CPU, and the device registers by what reads them: IF, IE, timer, joypad,
serial, LCDC, STAT and the palettes, the DMA register, HDMA5, NR52; memory holds what the parameter `initRam` lists;
and the header of the cartridge, unless a force flag overrides it, decides the variant
(70_reset_and_hazards R611 to R616; 00_scope R8). -/
def Obligations.ResetState : Prop :=
  (∀ c : Config, c.useBootRom = false →
    (State.resetWith c).regs = { a := if c.cgb then 0x11 else 0x01, f := 0xB0, b := 0x00, c := 0x13, d := 0x00, e := 0xD8
                                 h := 0x01, l := 0x4D, sp := 0xFFFE, pc := 0x0100 }) ∧
  (∀ c : Config, c.useBootRom = true →
    (State.resetWith c).regs = { a := 0, f := 0, b := 0, c := 0, d := 0, e := 0, h := 0, l := 0, sp := 0, pc := 0 }) ∧
  (∀ c : Config, (State.resetWith c).eng =
      { fsm := .opcode, clockCycle := 0, opcode1 := 0, opcode2 := 0, operand0 := 0, operand1 := 0, operandIndex := 0
        entry := none, opIndex := 0, ctx := 0, haltBugMode := false, irqIF := 0, irqIE := 0, irqSel := none
        faulted := none } ∧
    (State.resetWith c).irq.ime = false ∧ (State.resetWith c).irq.pendingEnable = .idle ∧
    (State.resetWith c).irq.pendingDisable = .idle ∧
    (State.resetWith c).spd = { speed := .normal, prepareSwitch := false }) ∧
  (∀ c : Config, c.useBootRom = false →
    let s := State.resetWith c
    memRead s 0xFF0F = 0xE1 ∧ s.timer.div16 = 0xABCC ∧ memRead s 0xFF04 = 0xAB ∧ memRead s 0xFF40 = 0x91 ∧
    memRead s 0xFF41 = 0x86 ∧ memRead s 0xFF47 = 0xFC ∧ memRead s 0xFF48 = 0xFF ∧ memRead s 0xFF49 = 0xFF ∧
    s.ppu.lcdEnabled = true ∧ s.ppu.mode = .oamSearch ∧ memRead s 0xFF26 = 0xF1 ∧ s.bootRomEnabled = false) ∧
  (∀ c : Config, c.useBootRom = true →
    let s := State.resetWith c
    memRead s 0xFF0F = 0xE0 ∧ s.timer.div16 = 0x0000 ∧ memRead s 0xFF40 = 0x00 ∧ memRead s 0xFF41 = 0x84 ∧
    memRead s 0xFF47 = 0x00 ∧ memRead s 0xFF48 = 0x00 ∧ memRead s 0xFF49 = 0x00 ∧
    s.ppu.lcdEnabled = false ∧ s.ppu.mode = .hblank ∧ memRead s 0xFF26 = 0x70 ∧ s.bootRomEnabled = true) ∧
  (∀ c : Config,
    let s := State.resetWith c
    memRead s 0xFFFF = 0x00 ∧ memRead s 0xFF05 = 0x00 ∧ memRead s 0xFF06 = 0x00 ∧ memRead s 0xFF07 = 0xF8 ∧
    memRead s 0xFF00 = 0xCF ∧ memRead s 0xFF01 = 0x00 ∧ memRead s 0xFF02 = (if c.cgb then 0x7C else 0x7E) ∧
    memRead s 0xFF44 = 0x00 ∧ memRead s 0xFF46 = 0xFF ∧ memRead s 0xFF55 = 0xFF ∧ s.dma.transferInProgress = false ∧
    s.hdma.inProgress = false ∧ s.svbk = 0 ∧ s.ppu.lcdEnabledDelay = -1) ∧
  (∀ (c : Config) (k : Nat) (v : Byte),
    Mem.read (State.resetWith { c with initRam := c.initRam ++ [(k, v)] }).mem k = v ∧
    ∀ j, j ≠ k →
      Mem.read (State.resetWith { c with initRam := c.initRam ++ [(k, v)] }).mem j = Mem.read (State.resetWith c).mem j) ∧
  (∀ c : Config, (State.construct c (some .dmg)).cfg.cgb = false ∧ (State.construct c (some .cgb)).cfg.cgb = true ∧
    (c.cartridge = .flatRom → ((State.construct c none).cfg.cgb = true ↔
      Mem.read (State.resetWith c).mem 0x143 = 0x80 ∨ Mem.read (State.resetWith c).mem 0x143 = 0xC0)))

/-! ### The register file (spec/10_state.md R20 to R24) -/

/-- Registers are separate cells; a pair is two of them, the first-named the high byte; a write to AF drops the low
nibble of F; Z, N, H and C stand in bits 7, 6, 5 and 4 of F (10_state R20 to R25). -/
def Obligations.RegisterFile : Prop :=
  (∀ (r : Regs) (x y : Reg8) (v : Byte), (r.set8 x v).get8 y = if y = x then v else r.get8 y) ∧
  (∀ (r : Regs) (x : Reg8) (v : Byte), (r.set8 x v).f = r.f ∧ (r.set8 x v).sp = r.sp ∧ (r.set8 x v).pc = r.pc) ∧
  (∀ (r : Regs) (x y : Reg16) (v : Word), (r.set16 x v).get16 y = if y = x then v else r.get16 y) ∧
  (∀ (r : Regs), r.get16 .bc = r.b ++ r.c ∧ r.get16 .de = r.d ++ r.e ∧ r.get16 .hl = r.h ++ r.l ∧
    r.get16 .sp = r.sp ∧ r.getStk .bc = r.b ++ r.c ∧ r.getStk .de = r.d ++ r.e ∧ r.getStk .hl = r.h ++ r.l ∧
    r.getStk .af = r.a ++ r.f) ∧
  (∀ (r : Regs) (v : Word), (r.setStk .af v).getStk .af = v &&& 0xFFF0 ∧
    r.setStk .af v = { r with a := (r.setStk .af v).a, f := (r.setStk .af v).f } ∧
    ∀ x, x ≠ .af → (r.setStk x v).getStk x = v ∧ (r.setStk x v).a = r.a ∧ (r.setStk x v).f = r.f) ∧
  (∀ (r : Regs) (g : Flags), r.setFlags g = { r with f := (r.setFlags g).f } ∧ (r.setFlags g).flags = g ∧
    (r.setFlags g).f &&& 0x0F = 0) ∧
  (∀ (r : Regs), r.flags = { z := r.f.getLsbD 7, n := r.f.getLsbD 6, h := r.f.getLsbD 5, c := r.f.getLsbD 4 }) ∧
  (∀ (r : Regs) (g : Flags), (r.setFlags g).f.getLsbD 7 = g.z ∧ (r.setFlags g).f.getLsbD 6 = g.n ∧
    (r.setFlags g).f.getLsbD 5 = g.h ∧ (r.setFlags g).f.getLsbD 4 = g.c)

/-! ### Loads (spec/41_load8.md, spec/42_load16_stack.md) -/

/-- Loads between registers and of immediates: `LD r,r'`, `LD r,d8`, `LD rr,d16`, `LD SP,HL`. Only the destination
changes, in one M-cycle or, for `LD SP,HL`, two (41_load8 R230, R231; 42_load16_stack R260, R262). -/
def Obligations.LoadRegister : Prop :=
  ∀ (i : Instr) (s : State),
    (∀ dst src, form i = .ldRR dst src → Completes i s s (s.regs.set8 dst (s.regs.get8 src))) ∧
    (∀ dst n, form i = .ldRD8 dst n → Completes i s s (s.regs.set8 dst n)) ∧
    (∀ rr nn, form i = .ldRrD16 rr nn → Completes i s s (s.regs.set16 rr nn)) ∧
    (form i = .ldSpHl → Completes i s (nextCycle s) { s.regs with sp := s.regs.hl })

/-- Loads from memory: `LD r,(HL)`, `LD A,(BC)`, `LD A,(DE)`, `LD A,(a16)`, `LDH A,(a8)`, `LD A,(C)`. The byte is read in
the next M-cycle, only the destination register changes, nothing is stored (41_load8 R232, R235, R237, R239, R241). -/
def Obligations.LoadFromMemory : Prop :=
  ∀ (i : Instr) (s : State),
    (∀ dst, form i = .ldRHl dst →
      Completes i s (nextCycle s) (s.regs.set8 dst (memRead (nextCycle s) (s.regs.h ++ s.regs.l)))) ∧
    (form i = .ldABc → Completes i s (nextCycle s) { s.regs with a := memRead (nextCycle s) (s.regs.b ++ s.regs.c) }) ∧
    (form i = .ldADe → Completes i s (nextCycle s) { s.regs with a := memRead (nextCycle s) (s.regs.d ++ s.regs.e) }) ∧
    (∀ nn, form i = .ldAA16 nn → Completes i s (nextCycle s) { s.regs with a := memRead (nextCycle s) nn }) ∧
    (∀ n, form i = .ldhAA8 n →
      Completes i s (nextCycle s) { s.regs with a := memRead (nextCycle s) ((0xFF : Byte) ++ n) }) ∧
    (form i = .ldACMem → Completes i s (nextCycle s) { s.regs with a := memRead (nextCycle s) ((0xFF : Byte) ++ s.regs.c) })

/-- Stores of one byte: `LD (HL),r`, `LD (HL),d8`, `LD (BC),A`, `LD (DE),A`, `LD (a16),A`, `LDH (a8),A`, `LD (C),A`. The
byte is written in the next M-cycle at the address computed from the registers; no register changes, and no other
address (41_load8 R233, R234, R236, R238, R240, R242). -/
def Obligations.StoreByte : Prop :=
  ∀ (i : Instr) (s : State),
    (∀ src, form i = .ldHlR src → CompletesStoring i s (nextCycle s) s.regs.hl (s.regs.get8 src) s.regs) ∧
    (∀ n, form i = .ldHlD8 n → CompletesStoring i s (nextCycle s) s.regs.hl n s.regs) ∧
    (form i = .ldBcA → CompletesStoring i s (nextCycle s) s.regs.bc s.regs.a s.regs) ∧
    (form i = .ldDeA → CompletesStoring i s (nextCycle s) s.regs.de s.regs.a s.regs) ∧
    (∀ nn, form i = .ldA16A nn → CompletesStoring i s (nextCycle s) nn s.regs.a s.regs) ∧
    (∀ n, form i = .ldhA8A n → CompletesStoring i s (nextCycle s) ((0xFF : Byte) ++ n) s.regs.a s.regs) ∧
    (form i = .ldCMemA → CompletesStoring i s (nextCycle s) ((0xFF : Byte) ++ s.regs.c) s.regs.a s.regs)

/-- Loads and stores that step HL: the access is at the old HL in the next M-cycle, then HL is one more or one less
modulo 2^16, with the OAM corruption hook if the old HL lies in 0xFE00 to 0xFEFF (41_load8 R243 to R246). -/
def Obligations.LoadStoreSteppingHl : Prop :=
  ∀ (i : Instr) (s : State),
    (form i = .ldHlIncA →
      Completes i s (oamBug (MicroOp.causeIf s.regs.hl .ldHl) (memWrite (nextCycle s) s.regs.hl s.regs.a))
        (s.regs.setHl (s.regs.hl + 1)) ∧
      Stored (nextCycle s) s.regs.hl s.regs.a (memWrite (nextCycle s) s.regs.hl s.regs.a)) ∧
    (form i = .ldHlDecA →
      Completes i s (oamBug (MicroOp.causeIf s.regs.hl .ldHl) (memWrite (nextCycle s) s.regs.hl s.regs.a))
        (s.regs.setHl (s.regs.hl - 1)) ∧
      Stored (nextCycle s) s.regs.hl s.regs.a (memWrite (nextCycle s) s.regs.hl s.regs.a)) ∧
    (form i = .ldAHlInc →
      Completes i s (oamBug (MicroOp.causeIf s.regs.hl .ldHl) (nextCycle s))
        (({ s.regs with a := memRead (nextCycle s) s.regs.hl } : Regs).setHl (s.regs.hl + 1))) ∧
    (form i = .ldAHlDec →
      Completes i s (oamBug (MicroOp.causeIf s.regs.hl .ldHl) (nextCycle s))
        (({ s.regs with a := memRead (nextCycle s) s.regs.hl } : Regs).setHl (s.regs.hl - 1)))

/-- `LD (a16),SP` stores SP's low byte at a16 and its high byte at a16 + 1, one M-cycle apart; `LD HL,SP+r8` and
`ADD SP,r8` give SP plus the signed displacement modulo 2^16, with Z and N cleared and H and C the carries of the
unsigned addition of the low bytes from bits 3 and 7 (42_load16_stack R261, R263; 44_alu16 R323). -/
def Obligations.StackPointerInstructions : Prop :=
  ∀ (i : Instr) (s : State),
    (∀ nn, form i = .ldA16Sp nn →
      let low := memWrite (nextCycle s) nn (s.regs.sp.extractLsb' 0 8)
      CompletesStoring i s (nextCycle low) (nn + 1) (s.regs.sp.extractLsb' 8 8) s.regs ∧
      Stored (nextCycle s) nn (s.regs.sp.extractLsb' 0 8) low) ∧
    (∀ e, form i = .ldHlSpR8 e → i.wf = true →
      Completes i s (nextCycle s)
        ((s.regs.setFlags { z := false, n := false, h := decide ((s.regs.sp.toNat : Int) % 16 + e % 16 > 15)
                            c := decide ((s.regs.sp.toNat : Int) % 256 + e % 256 > 255) }).setHl
          (s.regs.sp + BitVec.ofInt 16 e))) ∧
    (∀ e, form i = .addSpR8 e → i.wf = true →
      Completes i s (nextCycle (nextCycle s))
        { s.regs.setFlags { z := false, n := false, h := decide ((s.regs.sp.toNat : Int) % 16 + e % 16 > 15)
                            c := decide ((s.regs.sp.toNat : Int) % 256 + e % 256 > 255) } with
          sp := s.regs.sp + BitVec.ofInt 16 e })

/-- `PUSH rr` stores the high byte at SP - 1 and the low byte at SP - 2, in its third and fourth M-cycles, and SP is two
less; `POP rr` reads the low byte at SP and the high byte at SP + 1, SP is two more, and `POP AF` drops the low nibble
of F (42_load16_stack R264 to R266). -/
def Obligations.PushPop : Prop :=
  ∀ (i : Instr) (s : State) (rr : StackReg),
    (form i = .push rr →
      Completes i s (pushedWord s.regs.sp (s.regs.getStk rr) (nextCycle (nextCycle s)))
        { s.regs with sp := s.regs.sp - 2 } ∧
      PushStores s.regs.sp (s.regs.getStk rr) (nextCycle (nextCycle s))) ∧
    (form i = .pop rr →
      Completes i s (poppedState s.regs.sp (nextCycle s))
        (({ s.regs with sp := s.regs.sp + 2 } : Regs).setStk rr (poppedWord s.regs.sp (nextCycle s))))

/-! ### 8-bit arithmetic (spec/43_alu8.md) -/

/-- ADD, ADC, SUB, SBC, AND, XOR, OR and CP with a register, an immediate or the byte at HL: A and F get what the
operation gives for the old A, the source and the old carry; nothing else changes (43_alu8 R280 to R289). -/
def Obligations.AluOperands : Prop :=
  ∀ (i : Instr) (s : State) (op : AluOp),
    (∀ src, form i = .aluR op src →
      Completes i s s
        { s.regs.setFlags (Alu.two op s.regs.flags s.regs.a (s.regs.get8 src)).flags with
          a := (Alu.two op s.regs.flags s.regs.a (s.regs.get8 src)).val }) ∧
    (∀ n, form i = .aluD8 op n →
      Completes i s s
        { s.regs.setFlags (Alu.two op s.regs.flags s.regs.a n).flags with a := (Alu.two op s.regs.flags s.regs.a n).val }) ∧
    (form i = .aluHl op →
      Completes i s (nextCycle s)
        { s.regs.setFlags (Alu.two op s.regs.flags s.regs.a (memRead (nextCycle s) s.regs.hl)).flags with
          a := (Alu.two op s.regs.flags s.regs.a (memRead (nextCycle s) s.regs.hl)).val })

/-- The arithmetic helpers: `Add8` and `Sub8` on integers, with their four flags (R288). -/
def Obligations.AddSubHelpers : Prop :=
  (∀ (a v : Byte) (cin : Bool),
    (Alu.add8 a v cin).val.toNat = (a.toNat + v.toNat + cin.toNat) % 256 ∧
    (Alu.add8 a v cin).flags =
      { z := decide ((a.toNat + v.toNat + cin.toNat) % 256 = 0), n := false
        h := decide ((a &&& 0xF).toNat + (v &&& 0xF).toNat + cin.toNat > 0xF)
        c := decide (a.toNat + v.toNat + cin.toNat > 0xFF) }) ∧
  (∀ (a v : Byte) (cin : Bool),
    ((Alu.sub8 a v cin).val.toNat : Int) = ((a.toNat : Int) - v.toNat - cin.toNat) % 256 ∧
    (Alu.sub8 a v cin).flags =
      { z := decide (((a.toNat : Int) - v.toNat - cin.toNat) % 256 = 0), n := true
        h := decide (((a &&& 0xF).toNat : Int) - (v &&& 0xF).toNat - cin.toNat < 0)
        c := decide ((a.toNat : Int) - v.toNat - cin.toNat < 0) })

/-- What each two-operand operation computes, value and all four flags: ADD and SUB are the helpers without a carry in,
ADC and SBC those with the carry flag, the three logical operations have their fixed flags, CP has the flags of SUB and
leaves A; and where they agree with the arithmetic on 8-bit words (43_alu8 R280 to R287). -/
def Obligations.AluOperationResults : Prop :=
  ∀ (g : Flags) (a v : Byte),
    Alu.two .add g a v = Alu.add8 a v false ∧ Alu.two .sub g a v = Alu.sub8 a v false ∧
    Alu.two .adc g a v = Alu.add8 a v g.c ∧ Alu.two .sbc g a v = Alu.sub8 a v g.c ∧
    Alu.two .cp g a v = { val := a, flags := (Alu.sub8 a v false).flags } ∧
    (Alu.two .add g a v).val = a + v ∧ (Alu.two .sub g a v).val = a - v ∧
    (Alu.two .adc g a v).val = a + v + (if g.c then 1 else 0) ∧
    (Alu.two .sbc g a v).val = a - v - (if g.c then 1 else 0) ∧
    (Alu.two .adc g a v).flags = (Alu.add8 a v g.c).flags ∧ (Alu.two .sbc g a v).flags = (Alu.sub8 a v g.c).flags ∧
    Alu.two .and g a v = { val := a &&& v, flags := { z := decide (a &&& v = 0), n := false, h := true, c := false } } ∧
    Alu.two .xor g a v = { val := a ^^^ v, flags := { z := decide (a = v), n := false, h := false, c := false } } ∧
    Alu.two .or g a v = { val := a ||| v, flags := { z := decide (a ||| v = 0), n := false, h := false, c := false } } ∧
    (Alu.two .cp g a v).val = a ∧ (Alu.two .cp g a v).flags = (Alu.two .sub g a v).flags ∧
    (Alu.two .cp g a v).flags.z = decide (a = v) ∧ (Alu.two .cp g a v).flags.c = decide (a.toNat < v.toNat) ∧
    (Alu.two .add g a v).flags.c = decide ((a + v).toNat < a.toNat)

/-- `INC` and `DEC` of a register and of the byte at HL: one more or one less modulo 256; Z, N and H are written, C is
kept; the byte is read in one M-cycle and written in the next (43_alu8 R290 to R293). -/
def Obligations.IncrementDecrement : Prop :=
  ∀ (i : Instr) (s : State),
    (∀ r, form i = .incR r →
      Completes i s s ((s.regs.setFlags { z := decide (s.regs.get8 r = 0xFF), n := false
                                          h := decide ((s.regs.get8 r) &&& 0xF = 0xF), c := s.regs.flags.c }).set8 r
        (s.regs.get8 r + 1))) ∧
    (∀ r, form i = .decR r →
      Completes i s s ((s.regs.setFlags { z := decide (s.regs.get8 r = 1), n := true
                                          h := decide ((s.regs.get8 r) &&& 0xF = 0), c := s.regs.flags.c }).set8 r
        (s.regs.get8 r - 1))) ∧
    (form i = .incHlMem →
      let v := memRead (nextCycle s) s.regs.hl
      CompletesStoring i s (nextCycle (nextCycle s)) s.regs.hl (v + 1)
        (s.regs.setFlags { z := decide (v = 0xFF), n := false, h := decide (v &&& 0xF = 0xF), c := s.regs.flags.c })) ∧
    (form i = .decHlMem →
      let v := memRead (nextCycle s) s.regs.hl
      CompletesStoring i s (nextCycle (nextCycle s)) s.regs.hl (v - 1)
        (s.regs.setFlags { z := decide (v = 1), n := true, h := decide (v &&& 0xF = 0), c := s.regs.flags.c }))

/-- The instructions on A alone: DAA, CPL, SCF, CCF and the four accumulator rotates, whose Z is always cleared; and what
DAA computes for every A and every N, H, C (43_alu8 R294 to R297; 45_rotate_shift_bit R330 to R333). -/
def Obligations.AccumulatorOperations : Prop :=
  (∀ (g : Flags) (a : Byte), g.n = false →
    let high : Bool := g.c || decide (0x99 < a.toNat)
    let low : Bool := g.h || decide (0x09 < a.toNat % 16)
    let r : Byte := a + (if high then 0x60 else 0) + (if low then 0x06 else 0)
    Alu.daa g a = { val := r, flags := { z := decide (r = 0), n := false, h := false, c := high } }) ∧
  (∀ (g : Flags) (a : Byte), g.n = true →
    let r : Byte := a - (if g.c then 0x60 else 0) - (if g.h then 0x06 else 0)
    Alu.daa g a = { val := r, flags := { z := decide (r = 0), n := true, h := false, c := g.c } }) ∧
  ∀ (i : Instr) (s : State),
    (form i = .daa → Completes i s s
      { s.regs.setFlags (Alu.daa s.regs.flags s.regs.a).flags with a := (Alu.daa s.regs.flags s.regs.a).val }) ∧
    (form i = .cpl → Completes i s s
      { s.regs.setFlags { s.regs.flags with n := true, h := true } with a := ~~~s.regs.a }) ∧
    (form i = .scf → Completes i s s (s.regs.setFlags { s.regs.flags with n := false, h := false, c := true })) ∧
    (form i = .ccf → Completes i s s
      (s.regs.setFlags { s.regs.flags with n := false, h := false, c := !s.regs.flags.c })) ∧
    (form i = .rlca → Completes i s s
      { s.regs.setFlags { z := false, n := false, h := false, c := bitAt s.regs.a 7 } with a := s.regs.a.rotateLeft 1 }) ∧
    (form i = .rrca → Completes i s s
      { s.regs.setFlags { z := false, n := false, h := false, c := bitAt s.regs.a 0 } with a := s.regs.a.rotateRight 1 }) ∧
    (form i = .rla → Completes i s s
      { s.regs.setFlags { z := false, n := false, h := false, c := bitAt s.regs.a 7 } with
        a := (s.regs.a <<< 1) ||| (if s.regs.flags.c then 0x01 else 0) }) ∧
    (form i = .rra → Completes i s s
      { s.regs.setFlags { z := false, n := false, h := false, c := bitAt s.regs.a 0 } with
        a := (s.regs.a >>> 1) ||| (if s.regs.flags.c then 0x80 else 0) })

/-- DAA makes BCD arithmetic right: after adding two BCD numbers of two digits (with or without a carry in) it gives the
BCD digits of their sum and its carry; after subtracting, those of their difference modulo 100 and the borrow
(43_alu8 R294, with R280 to R283). -/
def Obligations.DaaAdjustsBcd : Prop :=
  (∀ (a b : Nat) (cin : Bool) (g : Flags), a < 100 → b < 100 →
    let bcd (n : Nat) : Byte := BitVec.ofNat 8 (16 * (n / 10) + n % 10)
    let sum := Alu.add8 (bcd a) (bcd b) cin
    (Alu.daa sum.flags sum.val).val = bcd ((a + b + cin.toNat) % 100) ∧
    (Alu.daa sum.flags sum.val).flags.c = decide (100 ≤ a + b + cin.toNat) ∧
    (Alu.daa g (bcd a)).flags.n = g.n ∧ (Alu.daa g (bcd a)).flags.h = false) ∧
  (∀ (a b : Nat) (cin : Bool), a < 100 → b < 100 →
    let bcd (n : Nat) : Byte := BitVec.ofNat 8 (16 * (n / 10) + n % 10)
    let diff := Alu.sub8 (bcd a) (bcd b) cin
    (Alu.daa diff.flags diff.val).val = bcd ((100 + a - b - cin.toNat) % 100) ∧
    (Alu.daa diff.flags diff.val).flags.c = decide (a < b + cin.toNat))

/-! ### 16-bit arithmetic (spec/44_alu16.md) -/

/-- `ADD HL,rr` adds modulo 2^16, keeps Z, clears N, and sets H and C by the carries from bits 11 and 15; `INC rr` and
`DEC rr` change no flag and run the OAM corruption hook if the old value lies in 0xFE00 to 0xFEFF
(44_alu16 R320 to R322). -/
def Obligations.WordArithmetic : Prop :=
  ∀ (i : Instr) (s : State) (rr : Reg16),
    (form i = .addHlRr rr →
      Completes i s (nextCycle s)
        ((s.regs.setFlags { z := s.regs.flags.z, n := false
                            h := decide (s.regs.hl.toNat % 4096 + (s.regs.get16 rr).toNat % 4096 ≥ 4096)
                            c := decide (s.regs.hl.toNat + (s.regs.get16 rr).toNat ≥ 65536) }).setHl
          (s.regs.hl + s.regs.get16 rr))) ∧
    (form i = .incRr rr →
      Completes i s (nextCycle (oamBug (MicroOp.causeIf (s.regs.get16 rr) .incDec) s))
        (s.regs.set16 rr (s.regs.get16 rr + 1))) ∧
    (form i = .decRr rr →
      Completes i s (nextCycle (oamBug (MicroOp.causeIf (s.regs.get16 rr) .incDec) s))
        (s.regs.set16 rr (s.regs.get16 rr - 1)))

/-! ### Rotates, shifts and bits (spec/45_rotate_shift_bit.md) -/

/-- The eight rotates and shifts after 0xCB, on a register and on the byte at HL: value and flags as the operation
gives them; the byte is read in one M-cycle and written in the next (45_rotate_shift_bit R334 to R341, R345). -/
def Obligations.RotateShift : Prop :=
  ∀ (i : Instr) (s : State) (op : ShiftOp),
    (∀ r, form i = .shiftR op r →
      Completes i s s ((s.regs.setFlags (Alu.shift op s.regs.flags (s.regs.get8 r)).flags).set8 r
        (Alu.shift op s.regs.flags (s.regs.get8 r)).val)) ∧
    (form i = .shiftHl op →
      let v := memRead (nextCycle s) s.regs.hl
      CompletesStoring i s (nextCycle (nextCycle s)) s.regs.hl (Alu.shift op s.regs.flags v).val
        (s.regs.setFlags (Alu.shift op s.regs.flags v).flags))

/-- What each rotate and shift gives, bit by bit, and its flags: Z of the result, N and H clear, C the bit shifted out
(SWAP: C clear) (45_rotate_shift_bit R334 to R341). -/
def Obligations.RotateShiftResults : Prop :=
  (∀ (g : Flags) (v : Byte),
    (Alu.shift .rlc g v).val = v.rotateLeft 1 ∧ (Alu.shift .rrc g v).val = v.rotateRight 1 ∧
    (∀ k, k < 8 → (Alu.shift .rl g v).val.getLsbD k = if k = 0 then g.c else v.getLsbD (k - 1)) ∧
    (∀ k, k < 8 → (Alu.shift .rr g v).val.getLsbD k = if k = 7 then g.c else v.getLsbD (k + 1)) ∧
    (∀ k, k < 8 → (Alu.shift .sla g v).val.getLsbD k = (decide (k ≠ 0) && v.getLsbD (k - 1))) ∧
    (∀ k, k < 8 → (Alu.shift .sra g v).val.getLsbD k = v.getLsbD (if k = 7 then 7 else k + 1)) ∧
    (∀ k, k < 8 → (Alu.shift .srl g v).val.getLsbD k = (decide (k ≠ 7) && v.getLsbD (k + 1))) ∧
    (Alu.shift .swap g v).val = v.rotateLeft 4) ∧
  (∀ (op : ShiftOp) (g : Flags) (v : Byte), (Alu.shift op g v).flags.z = decide ((Alu.shift op g v).val = 0) ∧
    (Alu.shift op g v).flags.n = false ∧ (Alu.shift op g v).flags.h = false ∧
    (Alu.shift op g v).flags.c =
      (match op with
       | .rlc => v.getLsbD 7 | .rl => v.getLsbD 7 | .sla => v.getLsbD 7
       | .rrc => v.getLsbD 0 | .rr => v.getLsbD 0 | .sra => v.getLsbD 0 | .srl => v.getLsbD 0
       | .swap => false))

/-- BIT, RES and SET of a bit of a register and of the byte at HL: BIT sets Z to the complement of the bit, clears N,
sets H, keeps C and changes nothing else; RES and SET change that one bit and no flag
(45_rotate_shift_bit R342 to R345). -/
def Obligations.BitOperations : Prop :=
  ∀ (i : Instr) (s : State) (k : Fin 8),
    (∀ r, form i = .bitR k r → Completes i s s
      (s.regs.setFlags { z := !(s.regs.get8 r).getLsbD k, n := false, h := true, c := s.regs.flags.c })) ∧
    (form i = .bitHl k → Completes i s (nextCycle s)
      (s.regs.setFlags { z := !(memRead (nextCycle s) s.regs.hl).getLsbD k, n := false, h := true
                         c := s.regs.flags.c })) ∧
    (∀ r, form i = .resR k r →
      Completes i s s (s.regs.set8 r (s.regs.get8 r &&& ~~~(1#8 <<< k.val)))) ∧
    (∀ r, form i = .setR k r →
      Completes i s s (s.regs.set8 r (s.regs.get8 r ||| (1#8 <<< k.val)))) ∧
    (form i = .resHl k →
      CompletesStoring i s (nextCycle (nextCycle s)) s.regs.hl
        (memRead (nextCycle s) s.regs.hl &&& ~~~(1#8 <<< k.val)) s.regs) ∧
    (form i = .setHl k →
      CompletesStoring i s (nextCycle (nextCycle s)) s.regs.hl
        (memRead (nextCycle s) s.regs.hl ||| (1#8 <<< k.val)) s.regs)

/-! ### Control transfer (spec/46_control_transfer.md) -/

/-- Jumps: pc becomes the target, or stays past the instruction where the condition fails; no flag, no other register
and no memory changes (46_control_transfer R360 to R365). -/
def Obligations.Jumps : Prop :=
  ∀ (i : Instr) (s : State),
    (∀ nn, form i = .jp nn → Completes i s (nextCycle s) { s.regs with pc := nn }) ∧
    (form i = .jpHl → Completes i s s { s.regs with pc := s.regs.hl }) ∧
    (∀ e, form i = .jr e → i.wf = true →
      Completes i s (nextCycle s) { s.regs with pc := s.regs.pc + BitVec.ofInt 16 e }) ∧
    (∀ cc nn, form i = .jpCc cc nn →
      (s.regs.flags.holds cc = true → Completes i s (nextCycle s) { s.regs with pc := nn }) ∧
      (s.regs.flags.holds cc = false → Completes i s s s.regs)) ∧
    (∀ cc e, form i = .jrCc cc e → i.wf = true →
      (s.regs.flags.holds cc = true →
        Completes i s (nextCycle s) { s.regs with pc := s.regs.pc + BitVec.ofInt 16 e }) ∧
      (s.regs.flags.holds cc = false → Completes i s s s.regs)) ∧
    (∀ g : Flags, g.holds .nz = !g.z ∧ g.holds .z = g.z ∧ g.holds .nc = !g.c ∧ g.holds .c = g.c)

/-- Calls and restarts push the address of the next instruction, high byte first, and jump; a call whose condition
fails changes nothing (46_control_transfer R366, R367, R371). -/
def Obligations.CallsAndRestarts : Prop :=
  ∀ (i : Instr) (s : State),
    (∀ nn, form i = .call nn →
      Completes i s (pushedWord s.regs.sp s.regs.pc (nextCycle (nextCycle s)))
        { s.regs with sp := s.regs.sp - 2, pc := nn } ∧
      PushStores s.regs.sp s.regs.pc (nextCycle (nextCycle s))) ∧
    (∀ cc nn, form i = .callCc cc nn →
      (s.regs.flags.holds cc = true →
        Completes i s (pushedWord s.regs.sp s.regs.pc (nextCycle (nextCycle s)))
          { s.regs with sp := s.regs.sp - 2, pc := nn } ∧
        PushStores s.regs.sp s.regs.pc (nextCycle (nextCycle s))) ∧
      (s.regs.flags.holds cc = false → Completes i s s s.regs)) ∧
    (∀ y, form i = .rst y →
      Completes i s (nextCycle (pushedWord s.regs.sp s.regs.pc (nextCycle s)))
        { s.regs with sp := s.regs.sp - 2, pc := BitVec.ofNat 16 (8 * y.val) } ∧
      PushStores s.regs.sp s.regs.pc (nextCycle s))

/-- Returns pop pc, low byte first, and write it one M-cycle later; a return whose condition fails only takes its second
M-cycle; RETI also sets IME at once and idles the delay counters (46_control_transfer R368 to R370). -/
def Obligations.Returns : Prop :=
  ∀ (i : Instr) (s : State),
    (form i = .ret →
      Completes i s (nextCycle (poppedState s.regs.sp (nextCycle s)))
        { s.regs with sp := s.regs.sp + 2, pc := poppedWord s.regs.sp (nextCycle s) }) ∧
    (∀ cc, form i = .retCc cc →
      (s.regs.flags.holds cc = true →
        Completes i s (nextCycle (poppedState s.regs.sp (nextCycle (nextCycle s))))
          { s.regs with sp := s.regs.sp + 2, pc := poppedWord s.regs.sp (nextCycle (nextCycle s)) }) ∧
      (s.regs.flags.holds cc = false → Completes i s (nextCycle s) s.regs)) ∧
    (form i = .reti →
      let u := nextCycle (poppedState s.regs.sp (nextCycle s))
      Completes i s (u.setIrq { u.irq with ime := true, pendingEnable := .idle, pendingDisable := .idle })
        { s.regs with sp := s.regs.sp + 2, pc := poppedWord s.regs.sp (nextCycle s) })

/-! ### System instructions (spec/47_system.md) -/

/-- NOP does nothing; DI and EI make their request to the interrupt controller and change nothing else
(47_system R380, R383, R384). -/
def Obligations.NopDiEi : Prop :=
  ∀ (i : Instr) (s : State),
    (form i = .nop → Completes i s s s.regs) ∧
    (form i = .di → Completes i s (s.setIrq (s.irq.disable s.cfg.diDelay true)) s.regs) ∧
    (form i = .ei → Completes i s (s.setIrq (s.irq.enable true)) s.regs)

/-- HALT enters HALTED, or, with IME clear and a request pending, goes on in OPCODE with the halt bug armed. STOP enters
STOPPED and tells the host to switch the LCD off, or, on a CGB with the speed switch armed, toggles the speed and
disarms it. Neither runs the end of an instruction, so the delay counters keep their values; nothing else changes
(47_system R381, R382). -/
def Obligations.HaltAndStop : Prop :=
  ∀ (i : Instr) (s : State),
    (form i = .halt →
      exec i s = .next { s with
        eng := { s.eng with
          fsm := if s.irq.pending = true ∧ s.irq.ime = false then .opcode else .halted
          haltBugMode := if s.irq.pending = true ∧ s.irq.ime = false then true else s.eng.haltBugMode } }) ∧
    (∀ b, form i = .stop b → s.cfg.cgb = true ∧ s.spd.prepareSwitch = true →
      exec i s = .next { s with
        eng := { s.eng with fsm := .opcode }
        spd := { speed := if s.spd.speed = .normal then .double else .normal, prepareSwitch := false } }) ∧
    (∀ b, form i = .stop b → ¬ (s.cfg.cgb = true ∧ s.spd.prepareSwitch = true) →
      exec i s = .next { s with
        eng := { s.eng with fsm := .stopped }
        host := { s.host with calls := .disableLcd :: s.host.calls } })

/-! ### Devices -/

/-- A timer tick. The counter steps; TIMA counts in it exactly when the edge detector falls: its last level was 1, and
the bit TAC selects (9, 3, 5 or 7) of the new counter, with the timer enabled, is 0. An increment from 0xFF leaves 0 and
starts the overflow sequence, whose count this tick and each later one raises: the tick in which the count becomes 4
requests interrupt 2, the one in which it becomes 5 loads TMA, and the one in which it becomes 6 loads TMA again and
ends the sequence. No other tick of the sequence does either, and a tick without overflow requests nothing. In the
machine a tick's request sets IF bit 2 and no other
(60_exceptions R581 to R584). -/
def Obligations.TimerOverflow : Prop :=
  (∀ (t : Timer), t.tima = 0xFF → t.incTima = { t with tima := 0, overflow := true, ticksSinceOverflow := 0 }) ∧
  (∀ (t : Timer), t.tima ≠ 0xFF → t.incTima = { t with tima := t.tima + 1 }) ∧
  (∀ (s : State), (timerTick s).timer = s.timer.tick.1 ∧
    (timerTick s).irq = { s.irq with ifFlags := s.irq.ifFlags ||| (if s.timer.tick.2 then 0b00100 else 0) }) ∧
  ∀ (t : Timer),
    let n := t.div16 + 1
    let level := t.tac.getLsbD 2 && n.getLsbD (match t.tac.toNat % 4 with | 0 => 9 | 1 => 3 | 2 => 5 | _ => 7)
    let u := if t.prevBit = true ∧ level = false then t.incTima else t
    let r := t.tick
    (r.1.div16 = n ∧ r.1.prevBit = level ∧ r.1.tma = t.tma ∧ r.1.tac = t.tac) ∧
    (u.overflow = false → r = ({ u with div16 := n, prevBit := level }, false)) ∧
    (u.overflow = true →
      (u.ticksSinceOverflow ≠ 3 → r.2 = false) ∧ (u.ticksSinceOverflow = 3 → r.2 = true) ∧
      (u.ticksSinceOverflow ≠ 4 → u.ticksSinceOverflow ≠ 5 → r.1.tima = u.tima) ∧
      (u.ticksSinceOverflow = 4 ∨ u.ticksSinceOverflow = 5 → r.1.tima = t.tma) ∧
      (u.ticksSinceOverflow ≠ 5 → r.1.overflow = true ∧ r.1.ticksSinceOverflow = u.ticksSinceOverflow + 1) ∧
      (u.ticksSinceOverflow = 5 → r.1.overflow = false ∧ r.1.ticksSinceOverflow = 0))

/-- The timer registers: DIV reads the upper byte of the counter and any write clears it, with a falling edge if the
selected bit was 1 and the timer enabled; a write to TIMA is lost in the reload tick and otherwise cancels the overflow
sequence; TMA and TAC are only stored (60_exceptions R582, R585 to R587). -/
def Obligations.TimerRegisters : Prop :=
  (∀ (s : State) (v : Byte), (memWrite s 0xFF04 v).timer.div16 = 0 ∧ (memWrite s 0xFF04 v).timer.prevBit = false ∧
    (s.timer.prevBit = true → (memWrite s 0xFF04 v).timer.tima = s.timer.tima + 1) ∧
    (s.timer.prevBit = false → (memWrite s 0xFF04 v).timer = { s.timer with div16 := 0 })) ∧
  (∀ (s : State) (v : Byte), s.timer.ticksSinceOverflow < 5 →
    (memWrite s 0xFF05 v).timer = { s.timer with tima := v, overflow := false, ticksSinceOverflow := 0 }) ∧
  (∀ (s : State) (v : Byte), 5 ≤ s.timer.ticksSinceOverflow → (memWrite s 0xFF05 v).timer = s.timer) ∧
  (∀ (s : State) (v : Byte), (memWrite s 0xFF06 v).timer = { s.timer with tma := v }) ∧
  (∀ (s : State) (v : Byte), (memWrite s 0xFF07 v).timer = { s.timer with tac := v.setWidth 3 } ∧
    memRead (memWrite s 0xFF07 v) 0xFF07 = v ||| 0xF8) ∧
  (∀ (s : State), memRead s 0xFF04 = s.timer.div16.extractLsb' 8 8 ∧ memRead s 0xFF05 = s.timer.tima ∧
    memRead s 0xFF06 = s.timer.tma) ∧
  (∀ (t : Timer) (n : Word), (t.updateDiv n).prevBit =
    (t.tac.getLsbD 2 && n.getLsbD (match t.tac.toNat % 4 with | 0 => 9 | 1 => 3 | 2 => 5 | _ => 7)))

/-- OAM DMA copies 160 bytes, all in one tick, `DMA_TICKS / speed` ticks after the write to 0xFF46; until then it only
counts; the copy reads through the memory map, with the echo of work RAM above 0xDFFF, and writes OAM directly; with
the default parameter that is 648 ticks at normal speed and 324 at double speed
(49_dma_apu R462, R463; 20_memory R115). -/
def Obligations.OamDmaCopies : Prop :=
  (∀ (s : State), s.dma.transferInProgress = true → s.dmaLimit ≤ s.dma.dmaTicks + 1 →
    (dmaTick s).dma.transferInProgress = false ∧ (dmaTick s).dma.restarted = false ∧
    (dmaTick s).dma.dmaReg = s.dma.dmaReg ∧
    (Mem.wf s.mem = true → ∀ j, j < 160 →
      Mem.read (dmaTick s).mem (0xFE00 + j) = dmaRead s (s.dma.source + BitVec.ofNat 16 j)) ∧
    (∀ k, k < 0xFE00 ∨ 0xFEA0 ≤ k → Mem.read (dmaTick s).mem k = Mem.read s.mem k)) ∧
  (∀ (s : State), s.dma.transferInProgress = true → s.dma.dmaTicks + 1 < s.dmaLimit →
    dmaTick s = { s with dma := { s.dma with dmaTicks := s.dma.dmaTicks + 1 } }) ∧
  (∀ (s : State), s.dma.transferInProgress = false → dmaTick s = s) ∧
  (∀ (s : State) (a : Word), dmaRead s a = if a.toNat < 0xE000 then mmuRead s a else mmuRead s (a - 0x2000)) ∧
  (∀ (s : State), s.dmaLimit = s.cfg.dmaTicks / (if s.spd.speed = .normal then 1 else 2)) ∧
  (∀ c : Bool, ({ cgb := c } : Config).dmaTicks = 648)

/-- HDMA: a write to HDMA5 starts a transfer from the source and to the VRAM destination the four registers hold, or,
with bit 7 clear during one, stops it; the transfer holds the bus at once if general, else in HBlank or with the LCD
off. A block takes `hdmaBlockTicks` ticks, 32 by default, of which all but the last only count; the last copies 16 bytes
through the memory map, into the VRAM bank selected, or beyond VRAM into the cartridge region, which the flat ROM
ignores; then both addresses move by 16 and the length counts down, the last block ending the transfer with HDMA5
reading 0xFF, and in HBlank mode an earlier one waiting for the next HBlank (49_dma_apu R470 to R474). The copy is stated
for a source outside VRAM, where no byte copied changes a later one. -/
def Obligations.HdmaTransfers : Prop :=
  (∀ (h : Hdma) (v : Byte), h.inProgress = false ∨ v.getLsbD 7 = true →
    h.write 0xFF55 v =
      { h with hblankTransfer := v.getLsbD 7, length := v.setWidth 7, inProgress := true
               src := (h.hdma1 ++ h.hdma2) &&& 0xFFF0
               dst := 0x8000 ||| (((h.hdma3 ++ h.hdma4) &&& 0x1FFF) &&& 0xFFF0) }) ∧
  (∀ (h : Hdma) (v : Byte), h.inProgress = true → v.getLsbD 7 = false →
    h.write 0xFF55 v = { h with inProgress := false }) ∧
  (∀ (h : Hdma), h.active =
    (h.inProgress && (!h.hblankTransfer || decide (h.gpuModeSeen = some .hblank) || !h.lcdOn))) ∧
  (∀ (h : Hdma), h.length = 0 → h.inProgress = true → h.blockDone.inProgress = false ∧ h.blockDone.read 0xFF55 = 0xFF ∧
    h.blockDone.src = h.src + 16 ∧ h.blockDone.dst = h.dst + 16 ∧ h.blockDone.tick = 0) ∧
  (∀ (h : Hdma), h.length ≠ 0 → h.blockDone.inProgress = h.inProgress ∧ h.blockDone.length = h.length - 1 ∧
    h.blockDone.src = h.src + 16 ∧ h.blockDone.dst = h.dst + 16 ∧ h.blockDone.tick = 0) ∧
  (∀ (h : Hdma), h.blockDone.gpuModeSeen = if h.length ≠ 0 ∧ h.hblankTransfer = true then none else h.gpuModeSeen) ∧
  (∀ (s : State), s.hdma.tick + 1 < s.cfg.hdmaBlockTicks →
    hdmaTick s = { s with hdma := { s.hdma with tick := s.hdma.tick + 1 } }) ∧
  (∀ (s : State), Mem.wf s.mem = true → s.cfg.hdmaBlockTicks ≤ s.hdma.tick + 1 →
    0x8000 ≤ s.hdma.dst.toNat → s.hdma.dst.toNat + 16 ≤ 0xA000 →
    (∀ j, j < 16 → (s.hdma.src + BitVec.ofNat 16 j).toNat < 0x8000 ∨ 0xA000 ≤ (s.hdma.src + BitVec.ofNat 16 j).toNat) →
    (hdmaTick s).hdma = s.hdma.blockDone ∧
    (∀ j, j < 16 → mmuRead (hdmaTick s) (s.hdma.dst + BitVec.ofNat 16 j) = mmuRead s (s.hdma.src + BitVec.ofNat 16 j)) ∧
    (∀ k, (∀ j, j < 16 → k ≠ s.vramKey (s.hdma.dst.toNat + j)) → Mem.read (hdmaTick s).mem k = Mem.read s.mem k) ∧
    hdmaTick s = { s with mem := (hdmaTick s).mem, hdma := s.hdma.blockDone }) ∧
  (∀ (s : State), s.cfg.hdmaBlockTicks ≤ s.hdma.tick + 1 → 0xA000 ≤ s.hdma.dst.toNat → s.hdma.dst.toNat + 16 ≤ 0xC000 →
    s.cfg.cartridge = .flatRom → hdmaTick s = { s with hdma := s.hdma.blockDone }) ∧
  (∀ c : Bool, ({ cgb := c } : Config).hdmaBlockTicks = 32) ∧
  (∀ (s : State), s.cfg.cgb = false → s.hdmaActive = false ∧ ∀ a v, (memWrite s a v).hdma = s.hdma)

/-- Switching the LCD. Clearing LCDC bit 7 stops the PPU at once, with LY 0 and mode 0, and tells the host; setting it
starts the delay of `lcdOnDelay` ticks, during which ticks only count it down; the tick that ends the delay enables the LCD and
tells the host; a disabled LCD with no delay running does not tick. The registers: STAT reads bit 7 as 1, its four
enables, LY = LYC and the mode number, and a write reaches the enables only; LY is read-only; the plain registers hold
what is written; no write of these requests an interrupt. The CGB palette ports: the index port holds an index and the
auto-increment bit, the data port reads and writes the byte selected, a write stepping the index where asked
(48_ppu R401, R403, R440, R441, R445 to R447; 10_state R44, R45). -/
def Obligations.LcdRegisters : Prop :=
  (∀ (s : State) (v : Byte), (memWrite s 0xFF41 v).ppu = { s.ppu with statEn := v.extractLsb' 3 4 } ∧
    (memWrite s 0xFF41 v).irq = s.irq ∧
    memRead s 0xFF41 = 0x80 ||| (s.ppu.statEn.setWidth 8 <<< 3) ||| (if s.ppu.ly = s.ppu.lyc then 4 else 0) |||
      (match s.ppu.mode with | .hblank => 0 | .vblank => 1 | .oamSearch => 2 | .pixelTransfer => 3)) ∧
  (∀ (s : State) (v : Byte), memRead s 0xFF44 = s.ppu.ly ∧ memWrite s 0xFF44 v = s ∧ memRead s 0xFF40 = s.ppu.lcdc) ∧
  (∀ (s : State) (a : Word) (v : Byte),
    a ∈ ([0xFF42, 0xFF43, 0xFF45, 0xFF47, 0xFF48, 0xFF49, 0xFF4A, 0xFF4B] : List Word) →
    memRead (memWrite s a v) a = v ∧ (memWrite s a v).irq = s.irq) ∧
  (∀ (s : State) (v : Byte), (memWrite s 0xFF42 v).ppu = { s.ppu with scy := v } ∧
    (memWrite s 0xFF43 v).ppu = { s.ppu with scx := v } ∧ (memWrite s 0xFF45 v).ppu = { s.ppu with lyc := v } ∧
    (memWrite s 0xFF47 v).ppu = { s.ppu with bgp := v } ∧ (memWrite s 0xFF48 v).ppu = { s.ppu with obp0 := v } ∧
    (memWrite s 0xFF49 v).ppu = { s.ppu with obp1 := v } ∧ (memWrite s 0xFF4A v).ppu = { s.ppu with wy := v } ∧
    (memWrite s 0xFF4B v).ppu = { s.ppu with wx := v }) ∧
  (∀ (p : PalettePort) (v : Byte),
    p.writeIndex v = { p with palIndex := v.extractLsb' 0 6, autoInc := v.getLsbD 7 } ∧
    p.readIndex = (p.palIndex.setWidth 8 ||| (if p.autoInc then 0x80 else 0)) ||| 0x40 ∧
    p.writeData v = { p with bytes := p.bytes.set p.palIndex.toNat v
                             palIndex := if p.autoInc then p.palIndex + 1 else p.palIndex } ∧
    (∀ b, p.bytes[p.palIndex.toNat]? = some b → p.readData = b)) ∧
  (∀ (s : State) (v : Byte), s.cfg.cgb = true →
    (memWrite s 0xFF68 v).ppu = { s.ppu with bgPal := s.ppu.bgPal.writeIndex v } ∧
    (memWrite s 0xFF69 v).ppu = { s.ppu with bgPal := s.ppu.bgPal.writeData v } ∧
    (memWrite s 0xFF6A v).ppu = { s.ppu with objPal := s.ppu.objPal.writeIndex v } ∧
    (memWrite s 0xFF6B v).ppu = { s.ppu with objPal := s.ppu.objPal.writeData v } ∧
    memRead s 0xFF68 = s.ppu.bgPal.readIndex ∧ memRead s 0xFF69 = s.ppu.bgPal.readData ∧
    memRead s 0xFF6A = s.ppu.objPal.readIndex ∧ memRead s 0xFF6B = s.ppu.objPal.readData) ∧
  (∀ (s : State) (v : Byte), v.getLsbD 7 = false →
    let t := memWrite s 0xFF40 v
    t.ppu = { s.ppu with lcdc := v, ly := 0, ticksInLine := 0, mode := .hblank, hblankTicks := s.cfg.lcdOffHblankStart
                         lcdEnabled := false, lcdEnabledDelay := -1 } ∧
    t.host.calls = .disableLcd :: s.host.calls) ∧
  (∀ (s : State) (v : Byte), v.getLsbD 7 = true →
    (memWrite s 0xFF40 v).ppu = { s.ppu with lcdc := v, lcdEnabledDelay := (s.cfg.lcdOnDelay : Int) }) ∧
  (∀ (e : PpuEnv) (p : Ppu), p.lcdEnabled = false → p.lcdEnabledDelay = -1 →
    (p.tick e).ppu = p ∧ (p.tick e).vblank = false ∧ (p.tick e).stat = false ∧ (p.tick e).calls = []) ∧
  (∀ (e : PpuEnv) (p : Ppu), p.lcdEnabled = false → p.lcdEnabledDelay ≠ -1 → p.lcdEnabledDelay ≠ 1 →
    (p.tick e).ppu = { p with lcdEnabledDelay := p.lcdEnabledDelay - 1 } ∧ (p.tick e).vblank = false ∧
    (p.tick e).stat = false) ∧
  (∀ (e : PpuEnv) (p : Ppu), p.lcdEnabled = false → p.lcdEnabledDelay = 1 →
    (p.tick e).ppu.lcdEnabled = true ∧ .enableLcd ∈ (p.tick e).calls)

/-- The mode machine at the ends of lines: the line after 143 is VBlank's first and requests interrupt 0, with the STAT
request its enables give; every other line up to there starts an OAM search; LY 153 turns to 0 in its fourth tick;
the VBlank lines before the last count on, with the coincidence request; VBlank's last line ends in an OAM search of
line 0, with the OAM and the coincidence request; a VBlank line and an HBlank end at the count 456. In the machine a
tick's VBlank request sets IF bit 0, its STAT request IF bit 1, and nothing else of IF changes
(48_ppu R401, R404, R436 to R438). -/
def Obligations.PpuLineEnds : Prop :=
  (∀ (s : State), (ppuTick s).ppu = (s.ppu.tick s.ppuEnv).ppu ∧
    (ppuTick s).irq = { s.irq with ifFlags := s.irq.ifFlags |||
      (if (s.ppu.tick s.ppuEnv).vblank then 0b00001 else 0) ||| (if (s.ppu.tick s.ppuEnv).stat then 0b00010 else 0) }) ∧
  (∀ (c : Bool) (p : Ppu), p.mode = .hblank → p.ly = 143 →
    (p.nextPhase c).1.mode = .vblank ∧ (p.nextPhase c).1.ly = 144 ∧ (p.nextPhase c).1.ticksInLine = 0 ∧
    (p.nextPhase c).2.1 = true ∧
    (p.nextPhase c).2.2 = (p.statEn.getLsbD 1 || p.statEn.getLsbD 2 || (decide (p.lyc = 144) && p.statEn.getLsbD 3))) ∧
  (∀ (c : Bool) (p : Ppu), p.mode = .hblank → p.ly ≠ 143 →
    (p.nextPhase c).1.mode = .oamSearch ∧ (p.nextPhase c).1.ly = p.ly + 1 ∧ (p.nextPhase c).1.ticksInLine = 0 ∧
    (p.nextPhase c).2.1 = false ∧
    (p.nextPhase c).2.2 = (p.statEn.getLsbD 2 || (decide (p.lyc = p.ly + 1) && p.statEn.getLsbD 3))) ∧
  (∀ (e : PpuEnv) (p : Ppu), p.lcdEnabled = true → p.mode = .vblank → p.ly = 153 → p.ticksInLine = 3 →
    p.vblankTicks < 455 → (p.tick e).ppu.ly = 0 ∧ (p.tick e).stat = (decide (p.lyc = 0) && p.statEn.getLsbD 3)) ∧
  (∀ (c : Bool) (p : Ppu), p.mode = .vblank → p.ly = 0 →
    (p.nextPhase c).1.mode = .oamSearch ∧ (p.nextPhase c).1.ly = 0 ∧ (p.nextPhase c).1.ticksInLine = 0 ∧
    (p.nextPhase c).2 = (false, p.statEn.getLsbD 2 || (decide (p.lyc = 0) && p.statEn.getLsbD 3))) ∧
  (∀ (c : Bool) (p : Ppu), p.mode = .vblank → p.ly ≠ 0 →
    p.nextPhase c =
      ({ p with ly := p.ly + 1, ticksInLine := 0, vblankTicks := 0 }, false,
        decide (p.lyc = p.ly + 1) && p.statEn.getLsbD 3)) ∧
  (∀ (e : PpuEnv) (p : Ppu), p.lcdEnabled = true → p.mode = .vblank → p.vblankTicks = 455 →
    let n := ({ p with ticksInLine := p.ticksInLine + 1, vblankTicks := 456 } : Ppu).nextPhase e.cgb
    (p.tick e).ppu = n.1 ∧ (p.tick e).vblank = n.2.1 ∧ (p.tick e).stat = n.2.2) ∧
  (∀ (e : PpuEnv) (p : Ppu), p.lcdEnabled = true → p.mode = .hblank →
    (p.hblankTicks < 455 → (p.tick e).ppu =
        { p with ticksInLine := p.ticksInLine + 1, hblankTicks := p.hblankTicks + 1 } ∧
      (p.tick e).vblank = false ∧ (p.tick e).stat = false) ∧
    (p.hblankTicks = 455 →
      let n := ({ p with ticksInLine := p.ticksInLine + 1, hblankTicks := 456 } : Ppu).nextPhase e.cgb
      (p.tick e).ppu = n.1 ∧ (p.tick e).vblank = n.2.1 ∧ (p.tick e).stat = n.2.2)) ∧
  (∀ (c : Bool) (p : Ppu), p.mode = .pixelTransfer →
    (p.nextPhase c).1.mode = .hblank ∧ (p.nextPhase c).2 = (false, p.statEn.getLsbD 0)) ∧
  (∀ (c : Bool) (p : Ppu), p.mode = .oamSearch →
    (p.nextPhase c).1.mode = .pixelTransfer ∧ (p.nextPhase c).2 = (false, false) ∧ (p.nextPhase c).1.x = 0 ∧
    (p.nextPhase c).1.sprites = p.search.selected.map (fun q => (q, false)))

/-- The joypad and the serial port. A press requests interrupt 4 and shows as a 0 on its line when that line is
selected; a release requests nothing; the host can set the stop flag. A write with bit 7 set to SC starts a transfer,
which 512 ticks later hands the byte in SB to the host, puts the peer's byte in SB, clears the bit and requests interrupt
3 (60_exceptions R556, R557; 00_scope R15; the peer and the host's
presses as data of the state are the model's choice, logs 10 and 11). -/
def Obligations.JoypadAndSerial : Prop :=
  (∀ (s : State) (b : Button) (rest : List (Nat × HostEvent)), s.host.events = (0, .press b) :: rest →
    (∀ n e more, rest = (n, e) :: more → n ≠ 0) →
    (applyEvents s).irq.ifFlags = s.irq.ifFlags ||| 0b10000 ∧
    (applyEvents s).joypad = { s.joypad with pressed := s.joypad.pressed.update b true }) ∧
  (∀ (s : State) (b : Button) (rest : List (Nat × HostEvent)), s.host.events = (0, .release b) :: rest →
    (∀ n e more, rest = (n, e) :: more → n ≠ 0) →
    (applyEvents s).irq = s.irq ∧
    (applyEvents s).joypad = { s.joypad with pressed := s.joypad.pressed.update b false }) ∧
  (∀ (s : State) (rest : List (Nat × HostEvent)), s.host.events = (0, .stop) :: rest →
    (applyEvents s).host.stopFlag = true) ∧
  (∀ (s : State), s.serial.busy = true → 512 ≤ s.serial.div + 1 →
    (serialTick s).host.calls = .transfer s.serial.sb :: s.host.calls) ∧
  (∀ (s : State), (serialTick s).serial = (s.serial.tick s.cfg.serialPeer s.masterTicks).1 ∧
    (serialTick s).irq = { s.irq with ifFlags := s.irq.ifFlags |||
      (if (s.serial.tick s.cfg.serialPeer s.masterTicks).2 then 0b01000 else 0) }) ∧
  (∀ (j : Joypad),
    j.read.getLsbD 0 = !((!j.p1sel.getLsbD 0 && j.pressed.right) || (!j.p1sel.getLsbD 1 && j.pressed.a)) ∧
    j.read.getLsbD 1 = !((!j.p1sel.getLsbD 0 && j.pressed.left) || (!j.p1sel.getLsbD 1 && j.pressed.b)) ∧
    j.read.getLsbD 2 = !((!j.p1sel.getLsbD 0 && j.pressed.up) || (!j.p1sel.getLsbD 1 && j.pressed.select)) ∧
    j.read.getLsbD 3 = !((!j.p1sel.getLsbD 0 && j.pressed.down) || (!j.p1sel.getLsbD 1 && j.pressed.start)) ∧
    j.read.extractLsb' 4 2 = j.p1sel ∧ j.read.extractLsb' 6 2 = 0b11) ∧
  (∀ (p : Serial) (v : Byte), v.getLsbD 7 = true →
    p.write 0xFF02 v = { p with sc := v &&& 0x83, busy := true, div := 0 }) ∧
  (∀ (p : Serial) (peer : SerialPeer) (m : Nat), p.busy = true →
    (p.div + 1 < 512 → p.tick peer m = ({ p with div := p.div + 1 }, false)) ∧
    (512 ≤ p.div + 1 → (p.tick peer m).2 = true ∧ (p.tick peer m).1.busy = false ∧
      (p.tick peer m).1.sc = p.sc &&& 0x7F ∧
      (peer = .absent → (p.tick peer m).1.sb = 0xFF) ∧ (peer = .failing → (p.tick peer m).1.sb = 0x00) ∧
      (peer = .external → (p.tick peer m).1.sb = Config.serialReply m p.sb)))

/-- The sound unit. Power: clearing NR52 bit 7 switches every channel off and tells the host, and then NR52 reads
0x70; a write that leaves the power state alone changes nothing; a powered-off unit makes no sample and keeps its state.
Registers: each of 0xFF10 to 0xFF25 reads what was written with its mask of ones. Channels: a write to NRx2 or NR30
settles the DAC and can only disable; a trigger enables the channel if its DAC is on and restarts its parts; the length
counter steps every 16384 ticks and switches its channel off at 0; a write to NRx4 that enables it steps it in the
first half of the period, a trigger reloads it if it is or becomes 0, one short in the first half, and no other write to
NRx4 changes it; the envelope steps the volume once in `period` times 65536 ticks until its end; a
sweep trigger without a shift calculates nothing and one past 0x7FF sets the overflow, which switches channel 1 off in
the next tick; the sweep steps every 32768 ticks and then, when its timer ends, moves the frequency up; both pulse
channels (channel 1 with the sweep's copy of NR13 and NR14), the wave and the noise channel count their dividers down and at the end take the next duty bit, the next wave sample or
the next LFSR bit (the LFSR shifts in the exclusive or of its two low bits); the mixer adds the channels NR51 routes and
scales the sum by NR50. Wave RAM is plain memory while channel 3 is off,
and while it plays an access goes to the byte last read, or is lost; a DMG trigger at divider 2 overwrites its first
bytes (49_dma_apu R481, R483 to R488, R495, R496, R500, R506 to R508, R512, R515 to R517). -/
def Obligations.SoundUnit : Prop :=
  (∀ (s : State) (v : Byte), v.getLsbD 7 = false → s.apu.enabled = true →
    let t := memWrite s 0xFF26 v
    t.apu.enabled = false ∧ memRead t 0xFF26 = 0x70 ∧ t.host.calls = .soundStop :: s.host.calls ∧
    t.apu.waveRam = s.apu.waveRam) ∧
  (∀ (s : State) (v : Byte), v.getLsbD 7 = s.apu.enabled → memWrite s 0xFF26 v = s) ∧
  (∀ (s : State) (v : Byte), v.getLsbD 7 = true → s.apu.enabled = false →
    let t := memWrite s 0xFF26 v
    t.apu.enabled = true ∧ t.host.calls = .soundStart :: s.host.calls) ∧
  (∀ (s : State), s.apu.enabled = false → (soundTick s).apu = s.apu ∧ (soundTick s).host.calls = s.host.calls) ∧
  (∀ (s : State) (v : Byte) (w : Nat × Byte),
    w ∈ ([(0xFF10, 0x80), (0xFF11, 0x3F), (0xFF12, 0x00), (0xFF13, 0xFF), (0xFF14, 0xBF), (0xFF15, 0xFF), (0xFF16, 0x3F)] ++
      [(0xFF17, 0x00), (0xFF18, 0xFF), (0xFF19, 0xBF), (0xFF1A, 0x7F), (0xFF1B, 0xFF), (0xFF1C, 0x9F), (0xFF1D, 0xFF)] ++
      [(0xFF1E, 0xBF), (0xFF1F, 0xFF), (0xFF20, 0xFF), (0xFF21, 0x00), (0xFF22, 0x00), (0xFF23, 0xBF), (0xFF24, 0x00)] ++
      [(0xFF25, 0x00)] : List (Nat × Byte)) →
    memRead (memWrite s (BitVec.ofNat 16 w.1) v) (BitVec.ofNat 16 w.1) = v ||| w.2) ∧
  (∀ (c : Channel) (v : Byte),
    c.writeNr2 v = { c with nr2 := v, dacEnabled := decide (8 ≤ v.toNat)
                            channelEnabled := c.channelEnabled && decide (8 ≤ v.toNat) } ∧
    c.writeLength6 v = { c with nr1 := v, len := { c.len with length := 64 - v.toNat % 64 } } ∧
    (c.writeNr4 v).channelEnabled = (if v.getLsbD 7 then c.dacEnabled else c.channelEnabled) ∧
    (c.writeNr4 v).nr4 = v ∧ (c.writeNr4 v).len = c.len.writeNr4 v) ∧
  (∀ (s : State) (v : Byte), v.getLsbD 7 = true →
    ((memWrite s 0xFF14 v).apu.ch1 =
        { s.apu.ch1 with ch := s.apu.ch1.ch.writeNr4 v, di := 0, freqDivider := 1, env := s.apu.ch1.env.trigger } ∧
      (memWrite s 0xFF14 v).apu.sweep = ({ s.apu.sweep with nr14 := v } : Sweep).trigger) ∧
    (memWrite s 0xFF19 v).apu.ch2 =
      { s.apu.ch2 with ch := s.apu.ch2.ch.writeNr4 v, di := 0, freqDivider := 1, env := s.apu.ch2.env.trigger } ∧
    ((memWrite s 0xFF1E v).apu.ch3.ch = s.apu.ch3.ch.writeNr4 v ∧ (memWrite s 0xFF1E v).apu.ch3.wi = 0 ∧
      (memWrite s 0xFF1E v).apu.ch3.triggered = (!s.cfg.cgb) ∧
      (memWrite s 0xFF1E v).apu.ch3.freqDivider =
        if s.cfg.cgb then (((2048 - (s.apu.ch3.ch.nr3.toNat + 256 * (v.toNat % 8))) * 2 : Nat) : Int) else 6) ∧
    (memWrite s 0xFF23 v).apu.ch4 =
      { s.apu.ch4 with ch := s.apu.ch4.ch.writeNr4 v, lfsr := 0x7FFF, env := s.apu.ch4.env.trigger }) ∧
  (∀ (s : State) (v : Byte), (memWrite s 0xFF1A v).apu.ch3 =
    { s.apu.ch3 with ch := { s.apu.ch3.ch with nr0 := v, dacEnabled := v.getLsbD 7
                                               channelEnabled := s.apu.ch3.ch.channelEnabled && v.getLsbD 7 } }) ∧
  (∀ (l : LengthCounter),
    (l.li + 1 = 16384 → l.tick = { l with li := 0, length := if l.lengthEnabled then l.length - 1 else l.length }) ∧
    (l.li + 1 ≠ 16384 → l.tick = { l with li := l.li + 1 })) ∧
  (∀ (c : Channel), c.updateLength.len = c.len.tick ∧
    c.updateLength.channelEnabled = (c.channelEnabled && !(c.len.tick.lengthEnabled && decide (c.len.tick.length = 0)))) ∧
  (∀ (l : LengthCounter) (v : Byte), (l.writeNr4 v).lengthEnabled = v.getLsbD 6 ∧
    (l.lengthEnabled = false → v.getLsbD 6 = true → l.li < 8192 → v.getLsbD 7 = false →
      (l.writeNr4 v).length = l.length - 1) ∧
    (l.lengthEnabled = false → v.getLsbD 6 = true → l.li < 8192 → v.getLsbD 7 = true → 1 < l.full →
      (l.writeNr4 v).length = if l.length ≤ 1 then l.full - 1 else l.length - 1) ∧
    (v.getLsbD 7 = false → (l.lengthEnabled = true ∨ v.getLsbD 6 = false ∨ 8192 ≤ l.li) →
      (l.writeNr4 v).length = l.length) ∧
    (v.getLsbD 7 = true → l.length ≠ 0 → (l.lengthEnabled = true ∨ v.getLsbD 6 = false ∨ 8192 ≤ l.li) →
      (l.writeNr4 v).length = l.length) ∧
    (v.getLsbD 7 = true → l.length = 0 → 1 < l.full →
      (l.writeNr4 v).length = if v.getLsbD 6 = true ∧ l.li < 8192 then l.full - 1
        else if l.lengthEnabled = false ∧ v.getLsbD 6 = true then 0 else l.full)) ∧
  (∀ (e : Envelope), e.trigger = { e with volume := e.initialVolume, ei := 0, finished := false } ∧
    (e.finished = true → e.tick = e) ∧
    (e.finished = false → (e.volume = 0 ∧ e.up = false) ∨ (e.volume = 15 ∧ e.up = true) →
      e.tick = { e with finished := true }) ∧
    (e.finished = false → ¬ ((e.volume = 0 ∧ e.up = false) ∨ (e.volume = 15 ∧ e.up = true)) →
      e.tick = if e.ei + 1 = e.period * 65536
        then { e with ei := 0, volume := if e.up then e.volume + 1 else e.volume - 1 } else { e with ei := e.ei + 1 }) ∧
    e.output = if 0 < e.period then e.volume else e.initialVolume) ∧
  (∀ (w : Sweep), (w.shift = 0 → w.trigger.overflow = false) ∧
    (0 < w.shift → w.negate = false →
      w.trigger.overflow = decide (2047 < w.frequency + w.frequency / 2 ^ w.shift)) ∧
    (∀ v : Byte, w.negging = true → v.getLsbD 3 = false → (w.writeNr10 v).overflow = true)) ∧
  (∀ (w : Sweep), (w.si + 1 ≠ 32768 → w.tick = { w with si := w.si + 1 }) ∧
    (w.si + 1 = 32768 → w.counterEnabled = false → w.tick = { w with si := 0 }) ∧
    (w.si + 1 = 32768 → w.counterEnabled = true → w.timer ≠ 1 → w.tick = { w with si := 0, timer := w.timer - 1 }) ∧
    (w.si + 1 = 32768 → w.counterEnabled = true → w.timer = 1 → 0 < w.sPeriod → 0 < w.shift → w.negate = false →
      w.overflow = false →
      let f := w.shadowFreq + w.shadowFreq / 2 ^ w.shift
      w.tick.timer = w.sPeriod ∧ (2047 < f → w.tick.overflow = true ∧ w.tick.shadowFreq = w.shadowFreq) ∧
      (f ≤ 2047 → w.tick.shadowFreq = f ∧ w.tick.nr13.toNat = f % 256 ∧ w.tick.nr14.toNat = f / 256 ∧
        w.tick.overflow = decide (2047 < f + f / 2 ^ w.shift)))) ∧
  (∀ (p : Pulse) (w : Sweep), w.tick.overflow = true → (p.tick1 w).1.ch.channelEnabled = false ∧ (p.tick1 w).2.2 = 0) ∧
  (∀ (s : State) (k : Nat) (v : Byte), k < 16 → s.apu.waveRam.length = 16 → s.apu.ch3.ch.isEnabled = false →
    memRead (memWrite s (BitVec.ofNat 16 (0xFF30 + k)) v) (BitVec.ofNat 16 (0xFF30 + k)) = v ∧
    (memWrite s (BitVec.ofNat 16 (0xFF30 + k)) v).apu = { s.apu with waveRam := s.apu.waveRam.set k v }) ∧
  (∀ (s : State) (k j : Nat) (b : Byte), k < 16 → s.apu.ch3.ch.isEnabled = true → s.apu.ch3.lastRead = some j →
    s.apu.waveRam[j]? = some b →
    (s.cfg.cgb = true ∨ s.apu.ch3.ticksSinceRead < 2 → memRead s (BitVec.ofNat 16 (0xFF30 + k)) = b ∧
      ∀ v, (memWrite s (BitVec.ofNat 16 (0xFF30 + k)) v).apu = { s.apu with waveRam := s.apu.waveRam.set j v }) ∧
    (s.cfg.cgb = false ∧ 2 ≤ s.apu.ch3.ticksSinceRead → memRead s (BitVec.ofNat 16 (0xFF30 + k)) = 0xFF ∧
      ∀ v, memWrite s (BitVec.ofNat 16 (0xFF30 + k)) v = s)) ∧
  (∀ (c : Wave) (ram : List Byte) (j : Nat), ram.length = 16 → c.wi < 32 → 4 ≤ c.wi / 2 → j < 4 →
    (c.corrupted ram)[j]? = ram[c.wi / 8 * 4 + j]?) ∧
  (∀ (c : Wave) (ram : List Byte), ram.length = 16 → c.wi / 2 < 4 → (c.corrupted ram)[0]? = ram[c.wi / 2]? ∧
    ∀ j, j ≠ 0 → (c.corrupted ram)[j]? = ram[j]?) ∧
  (∀ (s : State) (v : Byte), (memWrite s 0xFF1E v).apu.waveRam =
    if v.getLsbD 7 = true ∧ s.cfg.cgb = false ∧ s.apu.ch3.ch.isEnabled = true ∧ s.apu.ch3.freqDivider = 2
    then s.apu.ch3.corrupted s.apu.waveRam else s.apu.waveRam) ∧
  (∀ (x : BitVec 15) (wide : Bool) (j : Nat), j < 15 → (Noise.lfsrNext x wide).getLsbD j =
    if j = 14 ∨ (j = 6 ∧ wide = true) then x.getLsbD 0 != x.getLsbD 1 else x.getLsbD (j + 1)) ∧
  (∀ (d j : Nat), d < 4 → j < 8 → some (dutyBit d j) =
    ([[1, 0, 0, 0, 0, 0, 0, 0], [1, 0, 0, 0, 0, 0, 0, 1], [1, 1, 1, 0, 0, 0, 0, 1], [0, 1, 1, 1, 1, 1, 1, 0]]
      : List (List Nat))[d]?.bind (fun row => row[j]?)) ∧
  (∀ (p : Pulse),
    let q := { p with env := p.env.tick, ch := p.ch.updateLength }
    let sample := dutyBit (p.ch.nr1.toNat / 64) p.di
    (q.ch.isEnabled = false → p.tick2 = (q, 0)) ∧
    (q.ch.isEnabled = true → p.freqDivider ≠ 1 →
      p.tick2 = ({ q with freqDivider := p.freqDivider - 1 }, p.lastOutput * p.env.tick.output)) ∧
    (q.ch.isEnabled = true → p.freqDivider = 1 →
      p.tick2 = ({ q with freqDivider := ((2048 - (p.ch.nr3.toNat + 256 * (p.ch.nr4.toNat % 8))) * 4 : Nat)
                          lastOutput := sample, di := (p.di + 1) % 8 }, sample * p.env.tick.output))) ∧
  (∀ (p : Pulse) (w : Sweep),
    let v := w.tick
    let l := p.ch.updateLength
    let q := { p with env := p.env.tick, ch := { l with channelEnabled := l.channelEnabled && !v.overflow } }
    let sample := dutyBit (p.ch.nr1.toNat / 64) p.di
    (q.ch.isEnabled = false → p.tick1 w = (q, v, 0)) ∧
    (q.ch.isEnabled = true → p.freqDivider ≠ 1 →
      p.tick1 w = ({ q with freqDivider := p.freqDivider - 1 }, v, p.lastOutput * p.env.tick.output)) ∧
    (q.ch.isEnabled = true → p.freqDivider = 1 →
      p.tick1 w = ({ q with freqDivider := ((2048 - (v.nr13.toNat + 256 * (v.nr14.toNat % 8))) * 4 : Nat)
                            lastOutput := sample, di := (p.di + 1) % 8 }, v, sample * p.env.tick.output))) ∧
  (∀ (c : Wave) (ram : List Byte),
    let l := c.ch.updateLength
    let on := l.channelEnabled && l.dacEnabled && c.ch.nr0.getLsbD 7
    let d := { c with ticksSinceRead := c.ticksSinceRead + 1, ch := l }
    (on = false → c.tick ram = (d, 0)) ∧
    (on = true → c.freqDivider ≠ 1 → c.tick ram = ({ d with freqDivider := c.freqDivider - 1 }, c.lastOutput)) ∧
    (∀ b, on = true → c.freqDivider = 1 → c.triggered = false → ram[c.wi / 2]? = some b →
      let n := if c.wi % 2 = 0 then b.toNat / 16 else b.toNat % 16
      let sample := match c.ch.nr2.toNat / 32 % 4 with | 0 => 0 | 1 => n | 2 => n / 2 | _ => n / 4
      c.tick ram =
        ({ d with freqDivider := ((2048 - (c.ch.nr3.toNat + 256 * (c.ch.nr4.toNat % 8))) * 2 : Nat), wi := (c.wi + 1) % 32
                  ticksSinceRead := 0, lastRead := some (c.wi / 2), buffer := b, lastOutput := sample }, sample)) ∧
    (on = true → c.freqDivider = 1 → c.triggered = true →
      (c.tick ram).2 = c.buffer.toNat / 16 ∧ (c.tick ram).1.triggered = false ∧ (c.tick ram).1.wi = (c.wi + 1) % 32)) ∧
  (∀ (c : Noise),
    let q := { c with env := c.env.tick, ch := c.ch.updateLength }
    let y := Noise.lfsrNext c.lfsr (c.ch.nr3.getLsbD 3)
    let level := if y.getLsbD 0 then 0 else 1
    (q.ch.isEnabled = false → c.tick = (q, 0)) ∧
    (q.ch.isEnabled = true → c.pi ≠ 1 → c.tick = ({ q with pi := c.pi - 1 }, c.lastResult * c.env.tick.output)) ∧
    (q.ch.isEnabled = true → c.pi = 1 →
      c.tick = ({ q with pi := (c.shiftedDivisor : Int), lfsr := y, lastResult := level }, level * c.env.tick.output))) ∧
  (∀ (u : Apu), u.enabled = true →
    let o1 := (u.ch1.tick1 u.sweep).2.2
    let o2 := u.ch2.tick2.2
    let o3 := (u.ch3.tick u.waveRam).2
    let o4 := u.ch4.tick.2
    let routed (k n : Nat) : Nat := if u.nr51.getLsbD k then n else 0
    u.tick.2 = some
      ((routed 4 o1 + routed 5 o2 + routed 6 o3 + routed 7 o4) / 4 * (u.nr50.toNat / 16 % 8),
       (routed 0 o1 + routed 1 o2 + routed 2 o3 + routed 3 o4) / 4 * (u.nr50.toNat % 8))) ∧
  (∀ (c : Noise) (v : Byte), c.polyWrite v =
    { c with pi := 1
             shiftedDivisor := (if v.toNat % 8 = 0 then 8 else 16 * (v.toNat % 8)) * 2 ^ (v.toNat / 16) })

/-- A tile line's eight colour indices: pixel `j` from the left takes bit 7 - j of both data bytes, the second byte's
the higher, and the line is reversed on request (R423). -/
def Obligations.TileLinePixels : Prop :=
  ∀ (d1 d2 : Byte) (j : Nat), j < 8 →
    (zipLine d1 d2 false).length = 8 ∧
    ((zipLine d1 d2 false)[j]?) =
      some (BitVec.ofNat 2 (2 * (d2.getLsbD (7 - j)).toNat + (d1.getLsbD (7 - j)).toNat)) ∧
    zipLine d1 d2 true = (zipLine d1 d2 false).reverse

end
end

