-- ==== Sys2Proof/Laws/Mem.lean ====
section
/-! SUPPORT. The laws of storage: every operation keeps the canonical form; a read after a write gives the value
written; a write leaves every other cell alone; equal contents are equal lists. -/

namespace Sys2Proof.Machine.Mem

open Host (Cell)

theorem wfFrom_cons {low k : Nat} {v : Byte} {m : List Cell} :
    wfFrom low ((k, v) :: m) = true ↔ low ≤ k ∧ v ≠ unlisted ∧ wfFrom (k + 1) m = true := by
  simp [wfFrom, and_assoc]

theorem wfFrom_mono {low low' : Nat} {m : List Cell} (h : wfFrom low m = true) (hl : low' ≤ low) :
    wfFrom low' m = true := by
  cases m with
  | nil => rfl
  | cons c m =>
    obtain ⟨k, v⟩ := c
    rw [wfFrom_cons] at h ⊢
    exact ⟨by omega, h.2⟩

/-- Below its lowest key a well-formed list reads as unlisted. -/
theorem read_below {low a : Nat} {m : List Cell} (h : wfFrom low m = true) (ha : a < low) : read m a = unlisted := by
  induction m generalizing low with
  | nil => rfl
  | cons c m ih =>
    obtain ⟨k, v⟩ := c
    rw [wfFrom_cons] at h
    have hk : a ≠ k := by omega
    simp only [read, hk, if_false]
    exact ih h.2.2 (by omega)

theorem wfFrom_write {low a : Nat} {m : List Cell} (v : Byte) (h : wfFrom low m = true) (ha : low ≤ a) :
    wfFrom low (write m a v) = true := by
  induction m generalizing low with
  | nil =>
    simp only [write]
    split
    · rfl
    · rename_i hv
      rw [wfFrom_cons]
      exact ⟨ha, hv, rfl⟩
  | cons c m ih =>
    obtain ⟨k, w⟩ := c
    have h' := wfFrom_cons.mp h
    simp only [write]
    split
    · rename_i hak
      split
      · exact h
      · rename_i hv
        exact wfFrom_cons.mpr ⟨ha, hv, wfFrom_cons.mpr ⟨hak, h'.2⟩⟩
    · split
      · rename_i hak
        subst hak
        split
        · exact wfFrom_mono h'.2.2 (by omega)
        · rename_i hv
          exact wfFrom_cons.mpr ⟨h'.1, hv, h'.2.2⟩
      · exact wfFrom_cons.mpr ⟨h'.1, h'.2.1, ih h'.2.2 (by omega)⟩

/-- A write keeps the canonical form. -/
theorem wf_write {m : List Cell} (a : Nat) (v : Byte) (h : wf m = true) : wf (write m a v) = true :=
  wfFrom_write v h (Nat.zero_le a)

/-- Storing a list of bytes keeps the canonical form. -/
theorem wf_writeAll {m : List Cell} (a : Nat) (vs : List Byte) (h : wf m = true) : wf (writeAll m a vs) = true := by
  induction vs generalizing m a with
  | nil => exact h
  | cons v vs ih => exact ih (a + 1) (wf_write a v h)

/-- A write leaves every other cell alone. -/
theorem read_write_other {m : List Cell} {a b : Nat} (v : Byte) (h : b ≠ a) : read (write m a v) b = read m b := by
  induction m with
  | nil =>
    simp only [write]
    split
    · rfl
    · simp [read, h]
  | cons c m ih =>
    obtain ⟨k, w⟩ := c
    simp only [write]
    split
    · split
      · rfl
      · simp [read, h]
    · split
      · rename_i hak
        subst hak
        split
        · simp [read, h]
        · simp [read, h]
      · simp only [read, ih]

theorem read_write_same_from {low a : Nat} {m : List Cell} (v : Byte) (h : wfFrom low m = true) :
    read (write m a v) a = v := by
  induction m generalizing low with
  | nil =>
    simp only [write]
    split
    · rename_i hv
      simp [read, hv]
    · simp [read]
  | cons c m ih =>
    obtain ⟨k, w⟩ := c
    have h' := wfFrom_cons.mp h
    simp only [write]
    split
    · rename_i hak
      split
      · rename_i hv
        rw [hv]
        exact read_below (wfFrom_cons.mpr ⟨hak, h'.2⟩) (Nat.lt_succ_self a)
      · simp [read]
    · split
      · rename_i hak
        subst hak
        split
        · rename_i hv
          rw [hv]
          exact read_below h'.2.2 (Nat.lt_succ_self a)
        · simp [read]
      · rename_i hak
        simp only [read, hak, if_false]
        exact ih h'.2.2

/-- A read after a write to the same cell gives the value written. -/
theorem read_write_same {m : List Cell} (a : Nat) (v : Byte) (h : wf m = true) : read (write m a v) a = v :=
  read_write_same_from v h

end Sys2Proof.Machine.Mem
end

