-- ==== Sys2Proof/Laws/State.lean ====
section
/-! SUPPORT. One lemma per field and update of the state, true by `rfl`: no later proof unfolds a record update. -/

namespace Sys2Proof.Machine

/-! ### `State.setRegs` -/

@[simp] theorem State.setRegs_cfg (s : State) (r : Regs) : (s.setRegs r).cfg = s.cfg := rfl
@[simp] theorem State.setRegs_regs (s : State) (r : Regs) : (s.setRegs r).regs = r := rfl
@[simp] theorem State.setRegs_eng (s : State) (r : Regs) : (s.setRegs r).eng = s.eng := rfl
@[simp] theorem State.setRegs_irq (s : State) (r : Regs) : (s.setRegs r).irq = s.irq := rfl
@[simp] theorem State.setRegs_spd (s : State) (r : Regs) : (s.setRegs r).spd = s.spd := rfl
@[simp] theorem State.setRegs_timer (s : State) (r : Regs) : (s.setRegs r).timer = s.timer := rfl
@[simp] theorem State.setRegs_ppu (s : State) (r : Regs) : (s.setRegs r).ppu = s.ppu := rfl
@[simp] theorem State.setRegs_dma (s : State) (r : Regs) : (s.setRegs r).dma = s.dma := rfl
@[simp] theorem State.setRegs_hdma (s : State) (r : Regs) : (s.setRegs r).hdma = s.hdma := rfl
@[simp] theorem State.setRegs_apu (s : State) (r : Regs) : (s.setRegs r).apu = s.apu := rfl
@[simp] theorem State.setRegs_joypad (s : State) (r : Regs) : (s.setRegs r).joypad = s.joypad := rfl
@[simp] theorem State.setRegs_serial (s : State) (r : Regs) : (s.setRegs r).serial = s.serial := rfl
@[simp] theorem State.setRegs_svbk (s : State) (r : Regs) : (s.setRegs r).svbk = s.svbk := rfl
@[simp] theorem State.setRegs_bootRomEnabled (s : State) (r : Regs) :
    (s.setRegs r).bootRomEnabled =
      s.bootRomEnabled := rfl
@[simp] theorem State.setRegs_cart (s : State) (r : Regs) : (s.setRegs r).cart = s.cart := rfl
@[simp] theorem State.setRegs_mem (s : State) (r : Regs) : (s.setRegs r).mem = s.mem := rfl
@[simp] theorem State.setRegs_host (s : State) (r : Regs) : (s.setRegs r).host = s.host := rfl
@[simp] theorem State.setRegs_masterTicks (s : State) (r : Regs) : (s.setRegs r).masterTicks = s.masterTicks := rfl

/-! ### `State.setCtx` -/

@[simp] theorem State.setCtx_cfg (s : State) (v : Word) : (s.setCtx v).cfg = s.cfg := rfl
@[simp] theorem State.setCtx_regs (s : State) (v : Word) : (s.setCtx v).regs = s.regs := rfl
@[simp] theorem State.setCtx_eng (s : State) (v : Word) : (s.setCtx v).eng = { s.eng with ctx := v } := rfl
@[simp] theorem State.setCtx_irq (s : State) (v : Word) : (s.setCtx v).irq = s.irq := rfl
@[simp] theorem State.setCtx_spd (s : State) (v : Word) : (s.setCtx v).spd = s.spd := rfl
@[simp] theorem State.setCtx_timer (s : State) (v : Word) : (s.setCtx v).timer = s.timer := rfl
@[simp] theorem State.setCtx_ppu (s : State) (v : Word) : (s.setCtx v).ppu = s.ppu := rfl
@[simp] theorem State.setCtx_dma (s : State) (v : Word) : (s.setCtx v).dma = s.dma := rfl
@[simp] theorem State.setCtx_hdma (s : State) (v : Word) : (s.setCtx v).hdma = s.hdma := rfl
@[simp] theorem State.setCtx_apu (s : State) (v : Word) : (s.setCtx v).apu = s.apu := rfl
@[simp] theorem State.setCtx_joypad (s : State) (v : Word) : (s.setCtx v).joypad = s.joypad := rfl
@[simp] theorem State.setCtx_serial (s : State) (v : Word) : (s.setCtx v).serial = s.serial := rfl
@[simp] theorem State.setCtx_svbk (s : State) (v : Word) : (s.setCtx v).svbk = s.svbk := rfl
@[simp] theorem State.setCtx_bootRomEnabled (s : State) (v : Word) :
    (s.setCtx v).bootRomEnabled =
      s.bootRomEnabled := rfl
@[simp] theorem State.setCtx_cart (s : State) (v : Word) : (s.setCtx v).cart = s.cart := rfl
@[simp] theorem State.setCtx_mem (s : State) (v : Word) : (s.setCtx v).mem = s.mem := rfl
@[simp] theorem State.setCtx_host (s : State) (v : Word) : (s.setCtx v).host = s.host := rfl
@[simp] theorem State.setCtx_masterTicks (s : State) (v : Word) : (s.setCtx v).masterTicks = s.masterTicks := rfl

/-! ### `State.setFlags` -/

@[simp] theorem State.setFlags_cfg (s : State) (g : Flags) : (s.setFlags g).cfg = s.cfg := rfl
@[simp] theorem State.setFlags_regs (s : State) (g : Flags) : (s.setFlags g).regs = s.regs.setFlags g := rfl
@[simp] theorem State.setFlags_eng (s : State) (g : Flags) : (s.setFlags g).eng = s.eng := rfl
@[simp] theorem State.setFlags_irq (s : State) (g : Flags) : (s.setFlags g).irq = s.irq := rfl
@[simp] theorem State.setFlags_spd (s : State) (g : Flags) : (s.setFlags g).spd = s.spd := rfl
@[simp] theorem State.setFlags_timer (s : State) (g : Flags) : (s.setFlags g).timer = s.timer := rfl
@[simp] theorem State.setFlags_ppu (s : State) (g : Flags) : (s.setFlags g).ppu = s.ppu := rfl
@[simp] theorem State.setFlags_dma (s : State) (g : Flags) : (s.setFlags g).dma = s.dma := rfl
@[simp] theorem State.setFlags_hdma (s : State) (g : Flags) : (s.setFlags g).hdma = s.hdma := rfl
@[simp] theorem State.setFlags_apu (s : State) (g : Flags) : (s.setFlags g).apu = s.apu := rfl
@[simp] theorem State.setFlags_joypad (s : State) (g : Flags) : (s.setFlags g).joypad = s.joypad := rfl
@[simp] theorem State.setFlags_serial (s : State) (g : Flags) : (s.setFlags g).serial = s.serial := rfl
@[simp] theorem State.setFlags_svbk (s : State) (g : Flags) : (s.setFlags g).svbk = s.svbk := rfl
@[simp] theorem State.setFlags_bootRomEnabled (s : State) (g : Flags) :
    (s.setFlags g).bootRomEnabled =
      s.bootRomEnabled := rfl
@[simp] theorem State.setFlags_cart (s : State) (g : Flags) : (s.setFlags g).cart = s.cart := rfl
@[simp] theorem State.setFlags_mem (s : State) (g : Flags) : (s.setFlags g).mem = s.mem := rfl
@[simp] theorem State.setFlags_host (s : State) (g : Flags) : (s.setFlags g).host = s.host := rfl
@[simp] theorem State.setFlags_masterTicks (s : State) (g : Flags) : (s.setFlags g).masterTicks = s.masterTicks := rfl

/-! ### `State.setIrq` -/

@[simp] theorem State.setIrq_cfg (s : State) (q : IrqCtl) : (s.setIrq q).cfg = s.cfg := rfl
@[simp] theorem State.setIrq_regs (s : State) (q : IrqCtl) : (s.setIrq q).regs = s.regs := rfl
@[simp] theorem State.setIrq_eng (s : State) (q : IrqCtl) : (s.setIrq q).eng = s.eng := rfl
@[simp] theorem State.setIrq_irq (s : State) (q : IrqCtl) : (s.setIrq q).irq = q := rfl
@[simp] theorem State.setIrq_spd (s : State) (q : IrqCtl) : (s.setIrq q).spd = s.spd := rfl
@[simp] theorem State.setIrq_timer (s : State) (q : IrqCtl) : (s.setIrq q).timer = s.timer := rfl
@[simp] theorem State.setIrq_ppu (s : State) (q : IrqCtl) : (s.setIrq q).ppu = s.ppu := rfl
@[simp] theorem State.setIrq_dma (s : State) (q : IrqCtl) : (s.setIrq q).dma = s.dma := rfl
@[simp] theorem State.setIrq_hdma (s : State) (q : IrqCtl) : (s.setIrq q).hdma = s.hdma := rfl
@[simp] theorem State.setIrq_apu (s : State) (q : IrqCtl) : (s.setIrq q).apu = s.apu := rfl
@[simp] theorem State.setIrq_joypad (s : State) (q : IrqCtl) : (s.setIrq q).joypad = s.joypad := rfl
@[simp] theorem State.setIrq_serial (s : State) (q : IrqCtl) : (s.setIrq q).serial = s.serial := rfl
@[simp] theorem State.setIrq_svbk (s : State) (q : IrqCtl) : (s.setIrq q).svbk = s.svbk := rfl
@[simp] theorem State.setIrq_bootRomEnabled (s : State) (q : IrqCtl) :
    (s.setIrq q).bootRomEnabled =
      s.bootRomEnabled := rfl
@[simp] theorem State.setIrq_cart (s : State) (q : IrqCtl) : (s.setIrq q).cart = s.cart := rfl
@[simp] theorem State.setIrq_mem (s : State) (q : IrqCtl) : (s.setIrq q).mem = s.mem := rfl
@[simp] theorem State.setIrq_host (s : State) (q : IrqCtl) : (s.setIrq q).host = s.host := rfl
@[simp] theorem State.setIrq_masterTicks (s : State) (q : IrqCtl) : (s.setIrq q).masterTicks = s.masterTicks := rfl

/-! ### `State.setFsm` -/

@[simp] theorem State.setFsm_cfg (s : State) (f : Fsm) : (s.setFsm f).cfg = s.cfg := rfl
@[simp] theorem State.setFsm_regs (s : State) (f : Fsm) : (s.setFsm f).regs = s.regs := rfl
@[simp] theorem State.setFsm_eng (s : State) (f : Fsm) : (s.setFsm f).eng = { s.eng with fsm := f } := rfl
@[simp] theorem State.setFsm_irq (s : State) (f : Fsm) : (s.setFsm f).irq = s.irq := rfl
@[simp] theorem State.setFsm_spd (s : State) (f : Fsm) : (s.setFsm f).spd = s.spd := rfl
@[simp] theorem State.setFsm_timer (s : State) (f : Fsm) : (s.setFsm f).timer = s.timer := rfl
@[simp] theorem State.setFsm_ppu (s : State) (f : Fsm) : (s.setFsm f).ppu = s.ppu := rfl
@[simp] theorem State.setFsm_dma (s : State) (f : Fsm) : (s.setFsm f).dma = s.dma := rfl
@[simp] theorem State.setFsm_hdma (s : State) (f : Fsm) : (s.setFsm f).hdma = s.hdma := rfl
@[simp] theorem State.setFsm_apu (s : State) (f : Fsm) : (s.setFsm f).apu = s.apu := rfl
@[simp] theorem State.setFsm_joypad (s : State) (f : Fsm) : (s.setFsm f).joypad = s.joypad := rfl
@[simp] theorem State.setFsm_serial (s : State) (f : Fsm) : (s.setFsm f).serial = s.serial := rfl
@[simp] theorem State.setFsm_svbk (s : State) (f : Fsm) : (s.setFsm f).svbk = s.svbk := rfl
@[simp] theorem State.setFsm_bootRomEnabled (s : State) (f : Fsm) :
    (s.setFsm f).bootRomEnabled =
      s.bootRomEnabled := rfl
@[simp] theorem State.setFsm_cart (s : State) (f : Fsm) : (s.setFsm f).cart = s.cart := rfl
@[simp] theorem State.setFsm_mem (s : State) (f : Fsm) : (s.setFsm f).mem = s.mem := rfl
@[simp] theorem State.setFsm_host (s : State) (f : Fsm) : (s.setFsm f).host = s.host := rfl
@[simp] theorem State.setFsm_masterTicks (s : State) (f : Fsm) : (s.setFsm f).masterTicks = s.masterTicks := rfl

/-! ### `State.setOpIndex` -/

@[simp] theorem State.setOpIndex_cfg (s : State) (n : Nat) : (s.setOpIndex n).cfg = s.cfg := rfl
@[simp] theorem State.setOpIndex_regs (s : State) (n : Nat) : (s.setOpIndex n).regs = s.regs := rfl
@[simp] theorem State.setOpIndex_eng (s : State) (n : Nat) : (s.setOpIndex n).eng = { s.eng with opIndex := n } := rfl
@[simp] theorem State.setOpIndex_irq (s : State) (n : Nat) : (s.setOpIndex n).irq = s.irq := rfl
@[simp] theorem State.setOpIndex_spd (s : State) (n : Nat) : (s.setOpIndex n).spd = s.spd := rfl
@[simp] theorem State.setOpIndex_timer (s : State) (n : Nat) : (s.setOpIndex n).timer = s.timer := rfl
@[simp] theorem State.setOpIndex_ppu (s : State) (n : Nat) : (s.setOpIndex n).ppu = s.ppu := rfl
@[simp] theorem State.setOpIndex_dma (s : State) (n : Nat) : (s.setOpIndex n).dma = s.dma := rfl
@[simp] theorem State.setOpIndex_hdma (s : State) (n : Nat) : (s.setOpIndex n).hdma = s.hdma := rfl
@[simp] theorem State.setOpIndex_apu (s : State) (n : Nat) : (s.setOpIndex n).apu = s.apu := rfl
@[simp] theorem State.setOpIndex_joypad (s : State) (n : Nat) : (s.setOpIndex n).joypad = s.joypad := rfl
@[simp] theorem State.setOpIndex_serial (s : State) (n : Nat) : (s.setOpIndex n).serial = s.serial := rfl
@[simp] theorem State.setOpIndex_svbk (s : State) (n : Nat) : (s.setOpIndex n).svbk = s.svbk := rfl
@[simp] theorem State.setOpIndex_bootRomEnabled (s : State) (n : Nat) :
    (s.setOpIndex n).bootRomEnabled =
      s.bootRomEnabled := rfl
@[simp] theorem State.setOpIndex_cart (s : State) (n : Nat) : (s.setOpIndex n).cart = s.cart := rfl
@[simp] theorem State.setOpIndex_mem (s : State) (n : Nat) : (s.setOpIndex n).mem = s.mem := rfl
@[simp] theorem State.setOpIndex_host (s : State) (n : Nat) : (s.setOpIndex n).host = s.host := rfl
@[simp] theorem State.setOpIndex_masterTicks (s : State) (n : Nat) :
    (s.setOpIndex n).masterTicks =
      s.masterTicks := rfl

/-! ### `State.call` -/

@[simp] theorem State.call_cfg (s : State) (c : HostCall) : (s.call c).cfg = s.cfg := rfl
@[simp] theorem State.call_regs (s : State) (c : HostCall) : (s.call c).regs = s.regs := rfl
@[simp] theorem State.call_eng (s : State) (c : HostCall) : (s.call c).eng = s.eng := rfl
@[simp] theorem State.call_irq (s : State) (c : HostCall) : (s.call c).irq = s.irq := rfl
@[simp] theorem State.call_spd (s : State) (c : HostCall) : (s.call c).spd = s.spd := rfl
@[simp] theorem State.call_timer (s : State) (c : HostCall) : (s.call c).timer = s.timer := rfl
@[simp] theorem State.call_ppu (s : State) (c : HostCall) : (s.call c).ppu = s.ppu := rfl
@[simp] theorem State.call_dma (s : State) (c : HostCall) : (s.call c).dma = s.dma := rfl
@[simp] theorem State.call_hdma (s : State) (c : HostCall) : (s.call c).hdma = s.hdma := rfl
@[simp] theorem State.call_apu (s : State) (c : HostCall) : (s.call c).apu = s.apu := rfl
@[simp] theorem State.call_joypad (s : State) (c : HostCall) : (s.call c).joypad = s.joypad := rfl
@[simp] theorem State.call_serial (s : State) (c : HostCall) : (s.call c).serial = s.serial := rfl
@[simp] theorem State.call_svbk (s : State) (c : HostCall) : (s.call c).svbk = s.svbk := rfl
@[simp] theorem State.call_bootRomEnabled (s : State) (c : HostCall) :
    (s.call c).bootRomEnabled =
      s.bootRomEnabled := rfl
@[simp] theorem State.call_cart (s : State) (c : HostCall) : (s.call c).cart = s.cart := rfl
@[simp] theorem State.call_mem (s : State) (c : HostCall) : (s.call c).mem = s.mem := rfl
@[simp] theorem State.call_host (s : State) (c : HostCall) : (s.call c).host = s.host.push [c] := rfl
@[simp] theorem State.call_masterTicks (s : State) (c : HostCall) : (s.call c).masterTicks = s.masterTicks := rfl

/-! ### `finish` -/

@[simp] theorem finish_cfg (s : State) : (finish s).cfg = s.cfg := rfl
@[simp] theorem finish_regs (s : State) : (finish s).regs = s.regs := rfl
@[simp] theorem finish_eng (s : State) : (finish s).eng = { s.eng with fsm := .opcode, operandIndex := 0 } := rfl
@[simp] theorem finish_irq (s : State) : (finish s).irq = s.irq.instructionFinished s.cfg.diDelay := rfl
@[simp] theorem finish_spd (s : State) : (finish s).spd = s.spd := rfl
@[simp] theorem finish_timer (s : State) : (finish s).timer = s.timer := rfl
@[simp] theorem finish_ppu (s : State) : (finish s).ppu = s.ppu := rfl
@[simp] theorem finish_dma (s : State) : (finish s).dma = s.dma := rfl
@[simp] theorem finish_hdma (s : State) : (finish s).hdma = s.hdma := rfl
@[simp] theorem finish_apu (s : State) : (finish s).apu = s.apu := rfl
@[simp] theorem finish_joypad (s : State) : (finish s).joypad = s.joypad := rfl
@[simp] theorem finish_serial (s : State) : (finish s).serial = s.serial := rfl
@[simp] theorem finish_svbk (s : State) : (finish s).svbk = s.svbk := rfl
@[simp] theorem finish_bootRomEnabled (s : State) : (finish s).bootRomEnabled = s.bootRomEnabled := rfl
@[simp] theorem finish_cart (s : State) : (finish s).cart = s.cart := rfl
@[simp] theorem finish_mem (s : State) : (finish s).mem = s.mem := rfl
@[simp] theorem finish_host (s : State) : (finish s).host = s.host := rfl
@[simp] theorem finish_masterTicks (s : State) : (finish s).masterTicks = s.masterTicks := rfl

/-! ### `countCycle` -/

@[simp] theorem countCycle_cfg (s : State) : (countCycle s).cfg = s.cfg := rfl
@[simp] theorem countCycle_regs (s : State) : (countCycle s).regs = s.regs := rfl
@[simp] theorem countCycle_eng (s : State) :
    (countCycle s).eng =
      { s.eng with clockCycle := if s.atGate then 0 else s.eng.clockCycle + 1 } := rfl
@[simp] theorem countCycle_irq (s : State) : (countCycle s).irq = s.irq := rfl
@[simp] theorem countCycle_spd (s : State) : (countCycle s).spd = s.spd := rfl
@[simp] theorem countCycle_timer (s : State) : (countCycle s).timer = s.timer := rfl
@[simp] theorem countCycle_ppu (s : State) : (countCycle s).ppu = s.ppu := rfl
@[simp] theorem countCycle_dma (s : State) : (countCycle s).dma = s.dma := rfl
@[simp] theorem countCycle_hdma (s : State) : (countCycle s).hdma = s.hdma := rfl
@[simp] theorem countCycle_apu (s : State) : (countCycle s).apu = s.apu := rfl
@[simp] theorem countCycle_joypad (s : State) : (countCycle s).joypad = s.joypad := rfl
@[simp] theorem countCycle_serial (s : State) : (countCycle s).serial = s.serial := rfl
@[simp] theorem countCycle_svbk (s : State) : (countCycle s).svbk = s.svbk := rfl
@[simp] theorem countCycle_bootRomEnabled (s : State) : (countCycle s).bootRomEnabled = s.bootRomEnabled := rfl
@[simp] theorem countCycle_cart (s : State) : (countCycle s).cart = s.cart := rfl
@[simp] theorem countCycle_mem (s : State) : (countCycle s).mem = s.mem := rfl
@[simp] theorem countCycle_host (s : State) : (countCycle s).host = s.host := rfl
@[simp] theorem countCycle_masterTicks (s : State) : (countCycle s).masterTicks = s.masterTicks := rfl

/-! ### `enableInterrupts` -/

@[simp] theorem enableInterrupts_cfg (b : Bool) (s : State) : (enableInterrupts b s).cfg = s.cfg := rfl
@[simp] theorem enableInterrupts_regs (b : Bool) (s : State) : (enableInterrupts b s).regs = s.regs := rfl
@[simp] theorem enableInterrupts_eng (b : Bool) (s : State) : (enableInterrupts b s).eng = s.eng := rfl
@[simp] theorem enableInterrupts_irq (b : Bool) (s : State) : (enableInterrupts b s).irq = s.irq.enable b := rfl
@[simp] theorem enableInterrupts_spd (b : Bool) (s : State) : (enableInterrupts b s).spd = s.spd := rfl
@[simp] theorem enableInterrupts_timer (b : Bool) (s : State) : (enableInterrupts b s).timer = s.timer := rfl
@[simp] theorem enableInterrupts_ppu (b : Bool) (s : State) : (enableInterrupts b s).ppu = s.ppu := rfl
@[simp] theorem enableInterrupts_dma (b : Bool) (s : State) : (enableInterrupts b s).dma = s.dma := rfl
@[simp] theorem enableInterrupts_hdma (b : Bool) (s : State) : (enableInterrupts b s).hdma = s.hdma := rfl
@[simp] theorem enableInterrupts_apu (b : Bool) (s : State) : (enableInterrupts b s).apu = s.apu := rfl
@[simp] theorem enableInterrupts_joypad (b : Bool) (s : State) : (enableInterrupts b s).joypad = s.joypad := rfl
@[simp] theorem enableInterrupts_serial (b : Bool) (s : State) : (enableInterrupts b s).serial = s.serial := rfl
@[simp] theorem enableInterrupts_svbk (b : Bool) (s : State) : (enableInterrupts b s).svbk = s.svbk := rfl
@[simp] theorem enableInterrupts_bootRomEnabled (b : Bool) (s : State) :
    (enableInterrupts b s).bootRomEnabled =
      s.bootRomEnabled := rfl
@[simp] theorem enableInterrupts_cart (b : Bool) (s : State) : (enableInterrupts b s).cart = s.cart := rfl
@[simp] theorem enableInterrupts_mem (b : Bool) (s : State) : (enableInterrupts b s).mem = s.mem := rfl
@[simp] theorem enableInterrupts_host (b : Bool) (s : State) : (enableInterrupts b s).host = s.host := rfl
@[simp] theorem enableInterrupts_masterTicks (b : Bool) (s : State) :
    (enableInterrupts b s).masterTicks =
      s.masterTicks := rfl

/-! ### `disableInterrupts` -/

@[simp] theorem disableInterrupts_cfg (b : Bool) (s : State) : (disableInterrupts b s).cfg = s.cfg := rfl
@[simp] theorem disableInterrupts_regs (b : Bool) (s : State) : (disableInterrupts b s).regs = s.regs := rfl
@[simp] theorem disableInterrupts_eng (b : Bool) (s : State) : (disableInterrupts b s).eng = s.eng := rfl
@[simp] theorem disableInterrupts_irq (b : Bool) (s : State) :
    (disableInterrupts b s).irq =
      s.irq.disable s.cfg.diDelay b := rfl
@[simp] theorem disableInterrupts_spd (b : Bool) (s : State) : (disableInterrupts b s).spd = s.spd := rfl
@[simp] theorem disableInterrupts_timer (b : Bool) (s : State) : (disableInterrupts b s).timer = s.timer := rfl
@[simp] theorem disableInterrupts_ppu (b : Bool) (s : State) : (disableInterrupts b s).ppu = s.ppu := rfl
@[simp] theorem disableInterrupts_dma (b : Bool) (s : State) : (disableInterrupts b s).dma = s.dma := rfl
@[simp] theorem disableInterrupts_hdma (b : Bool) (s : State) : (disableInterrupts b s).hdma = s.hdma := rfl
@[simp] theorem disableInterrupts_apu (b : Bool) (s : State) : (disableInterrupts b s).apu = s.apu := rfl
@[simp] theorem disableInterrupts_joypad (b : Bool) (s : State) : (disableInterrupts b s).joypad = s.joypad := rfl
@[simp] theorem disableInterrupts_serial (b : Bool) (s : State) : (disableInterrupts b s).serial = s.serial := rfl
@[simp] theorem disableInterrupts_svbk (b : Bool) (s : State) : (disableInterrupts b s).svbk = s.svbk := rfl
@[simp] theorem disableInterrupts_bootRomEnabled (b : Bool) (s : State) :
    (disableInterrupts b s).bootRomEnabled =
      s.bootRomEnabled := rfl
@[simp] theorem disableInterrupts_cart (b : Bool) (s : State) : (disableInterrupts b s).cart = s.cart := rfl
@[simp] theorem disableInterrupts_mem (b : Bool) (s : State) : (disableInterrupts b s).mem = s.mem := rfl
@[simp] theorem disableInterrupts_host (b : Bool) (s : State) : (disableInterrupts b s).host = s.host := rfl
@[simp] theorem disableInterrupts_masterTicks (b : Bool) (s : State) :
    (disableInterrupts b s).masterTicks =
      s.masterTicks := rfl

/-! ### `dropByte` -/

@[simp] theorem dropByte_cfg (s : State) : (dropByte s).cfg = s.cfg := rfl
@[simp] theorem dropByte_regs (s : State) : (dropByte s).regs = { s.regs with sp := s.regs.sp + 1 } := rfl
@[simp] theorem dropByte_eng (s : State) : (dropByte s).eng = s.eng := rfl
@[simp] theorem dropByte_irq (s : State) : (dropByte s).irq = s.irq := rfl
@[simp] theorem dropByte_spd (s : State) : (dropByte s).spd = s.spd := rfl
@[simp] theorem dropByte_timer (s : State) : (dropByte s).timer = s.timer := rfl
@[simp] theorem dropByte_ppu (s : State) : (dropByte s).ppu = s.ppu := rfl
@[simp] theorem dropByte_dma (s : State) : (dropByte s).dma = s.dma := rfl
@[simp] theorem dropByte_hdma (s : State) : (dropByte s).hdma = s.hdma := rfl
@[simp] theorem dropByte_apu (s : State) : (dropByte s).apu = s.apu := rfl
@[simp] theorem dropByte_joypad (s : State) : (dropByte s).joypad = s.joypad := rfl
@[simp] theorem dropByte_serial (s : State) : (dropByte s).serial = s.serial := rfl
@[simp] theorem dropByte_svbk (s : State) : (dropByte s).svbk = s.svbk := rfl
@[simp] theorem dropByte_bootRomEnabled (s : State) : (dropByte s).bootRomEnabled = s.bootRomEnabled := rfl
@[simp] theorem dropByte_cart (s : State) : (dropByte s).cart = s.cart := rfl
@[simp] theorem dropByte_mem (s : State) : (dropByte s).mem = s.mem := rfl
@[simp] theorem dropByte_host (s : State) : (dropByte s).host = s.host := rfl
@[simp] theorem dropByte_masterTicks (s : State) : (dropByte s).masterTicks = s.masterTicks := rfl

/-! ### `raiseUnknownOpcode` -/

@[simp] theorem raiseUnknownOpcode_cfg (b : Byte) (s : State) : (raiseUnknownOpcode b s).cfg = s.cfg := rfl
@[simp] theorem raiseUnknownOpcode_regs (b : Byte) (s : State) : (raiseUnknownOpcode b s).regs = s.regs := rfl
@[simp] theorem raiseUnknownOpcode_eng (b : Byte) (s : State) :
    (raiseUnknownOpcode b s).eng =
      { s.eng with faulted := some { byte := b, pc := s.regs.pc } } := rfl
@[simp] theorem raiseUnknownOpcode_irq (b : Byte) (s : State) : (raiseUnknownOpcode b s).irq = s.irq := rfl
@[simp] theorem raiseUnknownOpcode_spd (b : Byte) (s : State) : (raiseUnknownOpcode b s).spd = s.spd := rfl
@[simp] theorem raiseUnknownOpcode_timer (b : Byte) (s : State) : (raiseUnknownOpcode b s).timer = s.timer := rfl
@[simp] theorem raiseUnknownOpcode_ppu (b : Byte) (s : State) : (raiseUnknownOpcode b s).ppu = s.ppu := rfl
@[simp] theorem raiseUnknownOpcode_dma (b : Byte) (s : State) : (raiseUnknownOpcode b s).dma = s.dma := rfl
@[simp] theorem raiseUnknownOpcode_hdma (b : Byte) (s : State) : (raiseUnknownOpcode b s).hdma = s.hdma := rfl
@[simp] theorem raiseUnknownOpcode_apu (b : Byte) (s : State) : (raiseUnknownOpcode b s).apu = s.apu := rfl
@[simp] theorem raiseUnknownOpcode_joypad (b : Byte) (s : State) : (raiseUnknownOpcode b s).joypad = s.joypad := rfl
@[simp] theorem raiseUnknownOpcode_serial (b : Byte) (s : State) : (raiseUnknownOpcode b s).serial = s.serial := rfl
@[simp] theorem raiseUnknownOpcode_svbk (b : Byte) (s : State) : (raiseUnknownOpcode b s).svbk = s.svbk := rfl
@[simp] theorem raiseUnknownOpcode_bootRomEnabled (b : Byte) (s : State) :
    (raiseUnknownOpcode b s).bootRomEnabled =
      s.bootRomEnabled := rfl
@[simp] theorem raiseUnknownOpcode_cart (b : Byte) (s : State) : (raiseUnknownOpcode b s).cart = s.cart := rfl
@[simp] theorem raiseUnknownOpcode_mem (b : Byte) (s : State) : (raiseUnknownOpcode b s).mem = s.mem := rfl
@[simp] theorem raiseUnknownOpcode_host (b : Byte) (s : State) : (raiseUnknownOpcode b s).host = s.host := rfl
@[simp] theorem raiseUnknownOpcode_masterTicks (b : Byte) (s : State) :
    (raiseUnknownOpcode b s).masterTicks =
      s.masterTicks := rfl

/-! ### `writeDevice` -/

@[simp] theorem writeDevice_cfg (s : State) (n : Nat) (v : Byte) : (writeDevice s n v).cfg = s.cfg := rfl
@[simp] theorem writeDevice_regs (s : State) (n : Nat) (v : Byte) : (writeDevice s n v).regs = s.regs := rfl
@[simp] theorem writeDevice_eng (s : State) (n : Nat) (v : Byte) : (writeDevice s n v).eng = s.eng := rfl
@[simp] theorem writeDevice_irq (s : State) (n : Nat) (v : Byte) : (writeDevice s n v).irq = s.irq.write n v := rfl
@[simp] theorem writeDevice_spd (s : State) (n : Nat) (v : Byte) : (writeDevice s n v).spd = s.spd.write n v := rfl
@[simp] theorem writeDevice_timer (s : State) (n : Nat) (v : Byte) :
    (writeDevice s n v).timer =
      s.timer.write n v := rfl
@[simp] theorem writeDevice_ppu (s : State) (n : Nat) (v : Byte) :
    (writeDevice s n v).ppu =
      s.ppu.write s.cfg n v := rfl
@[simp] theorem writeDevice_dma (s : State) (n : Nat) (v : Byte) :
    (writeDevice s n v).dma =
      s.dma.write s.cfg.dmaBlockAfter n v := rfl
@[simp] theorem writeDevice_hdma (s : State) (n : Nat) (v : Byte) : (writeDevice s n v).hdma = s.hdma.write n v := rfl
@[simp] theorem writeDevice_apu (s : State) (n : Nat) (v : Byte) :
    (writeDevice s n v).apu =
      s.apu.write s.cfg.cgb n v := rfl
@[simp] theorem writeDevice_joypad (s : State) (n : Nat) (v : Byte) :
    (writeDevice s n v).joypad =
      s.joypad.write n v := rfl
@[simp] theorem writeDevice_serial (s : State) (n : Nat) (v : Byte) :
    (writeDevice s n v).serial =
      s.serial.write n v := rfl
@[simp] theorem writeDevice_svbk (s : State) (n : Nat) (v : Byte) :
    (writeDevice s n v).svbk =
      if n = 0xFF70 then v.setWidth 3 else s.svbk := rfl
@[simp] theorem writeDevice_bootRomEnabled (s : State) (n : Nat) (v : Byte) :
    (writeDevice s n v).bootRomEnabled =
      if n = 0xFF50 then false else s.bootRomEnabled := rfl
@[simp] theorem writeDevice_cart (s : State) (n : Nat) (v : Byte) : (writeDevice s n v).cart = s.cart := rfl
@[simp] theorem writeDevice_mem (s : State) (n : Nat) (v : Byte) : (writeDevice s n v).mem = s.mem := rfl
@[simp] theorem writeDevice_host (s : State) (n : Nat) (v : Byte) :
    (writeDevice s n v).host =
      s.host.push (deviceCalls s n v) := rfl
@[simp] theorem writeDevice_masterTicks (s : State) (n : Nat) (v : Byte) :
    (writeDevice s n v).masterTicks =
      s.masterTicks := rfl

/-! ### `writeCart` -/

@[simp] theorem writeCart_cfg (s : State) (n : Nat) (v : Byte) : (writeCart s n v).cfg = s.cfg := rfl
@[simp] theorem writeCart_regs (s : State) (n : Nat) (v : Byte) : (writeCart s n v).regs = s.regs := rfl
@[simp] theorem writeCart_eng (s : State) (n : Nat) (v : Byte) : (writeCart s n v).eng = s.eng := rfl
@[simp] theorem writeCart_irq (s : State) (n : Nat) (v : Byte) : (writeCart s n v).irq = s.irq := rfl
@[simp] theorem writeCart_spd (s : State) (n : Nat) (v : Byte) : (writeCart s n v).spd = s.spd := rfl
@[simp] theorem writeCart_timer (s : State) (n : Nat) (v : Byte) : (writeCart s n v).timer = s.timer := rfl
@[simp] theorem writeCart_ppu (s : State) (n : Nat) (v : Byte) : (writeCart s n v).ppu = s.ppu := rfl
@[simp] theorem writeCart_dma (s : State) (n : Nat) (v : Byte) : (writeCart s n v).dma = s.dma := rfl
@[simp] theorem writeCart_hdma (s : State) (n : Nat) (v : Byte) : (writeCart s n v).hdma = s.hdma := rfl
@[simp] theorem writeCart_apu (s : State) (n : Nat) (v : Byte) : (writeCart s n v).apu = s.apu := rfl
@[simp] theorem writeCart_joypad (s : State) (n : Nat) (v : Byte) : (writeCart s n v).joypad = s.joypad := rfl
@[simp] theorem writeCart_serial (s : State) (n : Nat) (v : Byte) : (writeCart s n v).serial = s.serial := rfl
@[simp] theorem writeCart_svbk (s : State) (n : Nat) (v : Byte) : (writeCart s n v).svbk = s.svbk := rfl
@[simp] theorem writeCart_bootRomEnabled (s : State) (n : Nat) (v : Byte) :
    (writeCart s n v).bootRomEnabled = s.bootRomEnabled := rfl
@[simp] theorem writeCart_cart (s : State) (n : Nat) (v : Byte) :
    (writeCart s n v).cart = s.cfg.cartWrite s.cart n v := rfl
@[simp] theorem writeCart_mem (s : State) (n : Nat) (v : Byte) : (writeCart s n v).mem = s.mem := rfl
@[simp] theorem writeCart_host (s : State) (n : Nat) (v : Byte) : (writeCart s n v).host = s.host := rfl
@[simp] theorem writeCart_masterTicks (s : State) (n : Nat) (v : Byte) :
    (writeCart s n v).masterTicks = s.masterTicks := rfl

/-! ### `applyEvents` -/

@[simp] theorem applyEvents_cfg (s : State) : (applyEvents s).cfg = s.cfg := rfl
@[simp] theorem applyEvents_regs (s : State) : (applyEvents s).regs = s.regs := rfl
@[simp] theorem applyEvents_eng (s : State) : (applyEvents s).eng = s.eng := rfl
@[simp] theorem applyEvents_irq (s : State) :
    (applyEvents s).irq =
      s.irq.requestIf (deliver s.host.events s.joypad).requests .joypad := rfl
@[simp] theorem applyEvents_spd (s : State) : (applyEvents s).spd = s.spd := rfl
@[simp] theorem applyEvents_timer (s : State) : (applyEvents s).timer = s.timer := rfl
@[simp] theorem applyEvents_ppu (s : State) : (applyEvents s).ppu = s.ppu := rfl
@[simp] theorem applyEvents_dma (s : State) : (applyEvents s).dma = s.dma := rfl
@[simp] theorem applyEvents_hdma (s : State) : (applyEvents s).hdma = s.hdma := rfl
@[simp] theorem applyEvents_apu (s : State) : (applyEvents s).apu = s.apu := rfl
@[simp] theorem applyEvents_joypad (s : State) : (applyEvents s).joypad = (deliver s.host.events s.joypad).joypad := rfl
@[simp] theorem applyEvents_serial (s : State) : (applyEvents s).serial = s.serial := rfl
@[simp] theorem applyEvents_svbk (s : State) : (applyEvents s).svbk = s.svbk := rfl
@[simp] theorem applyEvents_bootRomEnabled (s : State) : (applyEvents s).bootRomEnabled = s.bootRomEnabled := rfl
@[simp] theorem applyEvents_cart (s : State) : (applyEvents s).cart = s.cart := rfl
@[simp] theorem applyEvents_mem (s : State) : (applyEvents s).mem = s.mem := rfl
@[simp] theorem applyEvents_host (s : State) :
    (applyEvents s).host =
      { s.host with events := (deliver s.host.events s.joypad).rest
                    stopFlag := s.host.stopFlag || (deliver s.host.events s.joypad).stops } := rfl
@[simp] theorem applyEvents_masterTicks (s : State) : (applyEvents s).masterTicks = s.masterTicks + 1 := rfl

/-! ### `timerTick` -/

@[simp] theorem timerTick_cfg (s : State) : (timerTick s).cfg = s.cfg := rfl
@[simp] theorem timerTick_regs (s : State) : (timerTick s).regs = s.regs := rfl
@[simp] theorem timerTick_eng (s : State) : (timerTick s).eng = s.eng := rfl
@[simp] theorem timerTick_irq (s : State) : (timerTick s).irq = s.irq.requestIf s.timer.tick.2 .timer := rfl
@[simp] theorem timerTick_spd (s : State) : (timerTick s).spd = s.spd := rfl
@[simp] theorem timerTick_timer (s : State) : (timerTick s).timer = s.timer.tick.1 := rfl
@[simp] theorem timerTick_ppu (s : State) : (timerTick s).ppu = s.ppu := rfl
@[simp] theorem timerTick_dma (s : State) : (timerTick s).dma = s.dma := rfl
@[simp] theorem timerTick_hdma (s : State) : (timerTick s).hdma = s.hdma := rfl
@[simp] theorem timerTick_apu (s : State) : (timerTick s).apu = s.apu := rfl
@[simp] theorem timerTick_joypad (s : State) : (timerTick s).joypad = s.joypad := rfl
@[simp] theorem timerTick_serial (s : State) : (timerTick s).serial = s.serial := rfl
@[simp] theorem timerTick_svbk (s : State) : (timerTick s).svbk = s.svbk := rfl
@[simp] theorem timerTick_bootRomEnabled (s : State) : (timerTick s).bootRomEnabled = s.bootRomEnabled := rfl
@[simp] theorem timerTick_cart (s : State) : (timerTick s).cart = s.cart := rfl
@[simp] theorem timerTick_mem (s : State) : (timerTick s).mem = s.mem := rfl
@[simp] theorem timerTick_host (s : State) : (timerTick s).host = s.host := rfl
@[simp] theorem timerTick_masterTicks (s : State) : (timerTick s).masterTicks = s.masterTicks := rfl

/-! ### `hdmaCount` -/

@[simp] theorem hdmaCount_cfg (s : State) : (hdmaCount s).cfg = s.cfg := rfl
@[simp] theorem hdmaCount_regs (s : State) : (hdmaCount s).regs = s.regs := rfl
@[simp] theorem hdmaCount_eng (s : State) : (hdmaCount s).eng = s.eng := rfl
@[simp] theorem hdmaCount_irq (s : State) : (hdmaCount s).irq = s.irq := rfl
@[simp] theorem hdmaCount_spd (s : State) : (hdmaCount s).spd = s.spd := rfl
@[simp] theorem hdmaCount_timer (s : State) : (hdmaCount s).timer = s.timer := rfl
@[simp] theorem hdmaCount_ppu (s : State) : (hdmaCount s).ppu = s.ppu := rfl
@[simp] theorem hdmaCount_dma (s : State) : (hdmaCount s).dma = s.dma := rfl
@[simp] theorem hdmaCount_hdma (s : State) : (hdmaCount s).hdma = { s.hdma with tick := s.hdma.tick + 1 } := rfl
@[simp] theorem hdmaCount_apu (s : State) : (hdmaCount s).apu = s.apu := rfl
@[simp] theorem hdmaCount_joypad (s : State) : (hdmaCount s).joypad = s.joypad := rfl
@[simp] theorem hdmaCount_serial (s : State) : (hdmaCount s).serial = s.serial := rfl
@[simp] theorem hdmaCount_svbk (s : State) : (hdmaCount s).svbk = s.svbk := rfl
@[simp] theorem hdmaCount_bootRomEnabled (s : State) : (hdmaCount s).bootRomEnabled = s.bootRomEnabled := rfl
@[simp] theorem hdmaCount_cart (s : State) : (hdmaCount s).cart = s.cart := rfl
@[simp] theorem hdmaCount_mem (s : State) : (hdmaCount s).mem = s.mem := rfl
@[simp] theorem hdmaCount_host (s : State) : (hdmaCount s).host = s.host := rfl
@[simp] theorem hdmaCount_masterTicks (s : State) : (hdmaCount s).masterTicks = s.masterTicks := rfl

/-! ### `hdmaBlockDone` -/

@[simp] theorem hdmaBlockDone_cfg (s : State) : (hdmaBlockDone s).cfg = s.cfg := rfl
@[simp] theorem hdmaBlockDone_regs (s : State) : (hdmaBlockDone s).regs = s.regs := rfl
@[simp] theorem hdmaBlockDone_eng (s : State) : (hdmaBlockDone s).eng = s.eng := rfl
@[simp] theorem hdmaBlockDone_irq (s : State) : (hdmaBlockDone s).irq = s.irq := rfl
@[simp] theorem hdmaBlockDone_spd (s : State) : (hdmaBlockDone s).spd = s.spd := rfl
@[simp] theorem hdmaBlockDone_timer (s : State) : (hdmaBlockDone s).timer = s.timer := rfl
@[simp] theorem hdmaBlockDone_ppu (s : State) : (hdmaBlockDone s).ppu = s.ppu := rfl
@[simp] theorem hdmaBlockDone_dma (s : State) : (hdmaBlockDone s).dma = s.dma := rfl
@[simp] theorem hdmaBlockDone_hdma (s : State) : (hdmaBlockDone s).hdma = s.hdma.blockDone := rfl
@[simp] theorem hdmaBlockDone_apu (s : State) : (hdmaBlockDone s).apu = s.apu := rfl
@[simp] theorem hdmaBlockDone_joypad (s : State) : (hdmaBlockDone s).joypad = s.joypad := rfl
@[simp] theorem hdmaBlockDone_serial (s : State) : (hdmaBlockDone s).serial = s.serial := rfl
@[simp] theorem hdmaBlockDone_svbk (s : State) : (hdmaBlockDone s).svbk = s.svbk := rfl
@[simp] theorem hdmaBlockDone_bootRomEnabled (s : State) : (hdmaBlockDone s).bootRomEnabled = s.bootRomEnabled := rfl
@[simp] theorem hdmaBlockDone_cart (s : State) : (hdmaBlockDone s).cart = s.cart := rfl
@[simp] theorem hdmaBlockDone_mem (s : State) : (hdmaBlockDone s).mem = s.mem := rfl
@[simp] theorem hdmaBlockDone_host (s : State) : (hdmaBlockDone s).host = s.host := rfl
@[simp] theorem hdmaBlockDone_masterTicks (s : State) : (hdmaBlockDone s).masterTicks = s.masterTicks := rfl

/-! ### `dmaTick` -/

@[simp] theorem dmaTick_cfg (s : State) : (dmaTick s).cfg = s.cfg := rfl
@[simp] theorem dmaTick_regs (s : State) : (dmaTick s).regs = s.regs := rfl
@[simp] theorem dmaTick_eng (s : State) : (dmaTick s).eng = s.eng := rfl
@[simp] theorem dmaTick_irq (s : State) : (dmaTick s).irq = s.irq := rfl
@[simp] theorem dmaTick_spd (s : State) : (dmaTick s).spd = s.spd := rfl
@[simp] theorem dmaTick_timer (s : State) : (dmaTick s).timer = s.timer := rfl
@[simp] theorem dmaTick_ppu (s : State) : (dmaTick s).ppu = s.ppu := rfl
@[simp] theorem dmaTick_dma (s : State) : (dmaTick s).dma = (s.dma.tick s.dmaLimit).1 := rfl
@[simp] theorem dmaTick_hdma (s : State) : (dmaTick s).hdma = s.hdma := rfl
@[simp] theorem dmaTick_apu (s : State) : (dmaTick s).apu = s.apu := rfl
@[simp] theorem dmaTick_joypad (s : State) : (dmaTick s).joypad = s.joypad := rfl
@[simp] theorem dmaTick_serial (s : State) : (dmaTick s).serial = s.serial := rfl
@[simp] theorem dmaTick_svbk (s : State) : (dmaTick s).svbk = s.svbk := rfl
@[simp] theorem dmaTick_bootRomEnabled (s : State) : (dmaTick s).bootRomEnabled = s.bootRomEnabled := rfl
@[simp] theorem dmaTick_cart (s : State) : (dmaTick s).cart = s.cart := rfl
@[simp] theorem dmaTick_mem (s : State) :
    (dmaTick s).mem =
      if (s.dma.tick s.dmaLimit).2 then Mem.writeAll s.mem 0xFE00 (dmaBytes s s.dma.source) else s.mem := rfl
@[simp] theorem dmaTick_host (s : State) : (dmaTick s).host = s.host := rfl
@[simp] theorem dmaTick_masterTicks (s : State) : (dmaTick s).masterTicks = s.masterTicks := rfl

/-! ### `soundTick` -/

@[simp] theorem soundTick_cfg (s : State) : (soundTick s).cfg = s.cfg := rfl
@[simp] theorem soundTick_regs (s : State) : (soundTick s).regs = s.regs := rfl
@[simp] theorem soundTick_eng (s : State) : (soundTick s).eng = s.eng := rfl
@[simp] theorem soundTick_irq (s : State) : (soundTick s).irq = s.irq := rfl
@[simp] theorem soundTick_spd (s : State) : (soundTick s).spd = s.spd := rfl
@[simp] theorem soundTick_timer (s : State) : (soundTick s).timer = s.timer := rfl
@[simp] theorem soundTick_ppu (s : State) : (soundTick s).ppu = s.ppu := rfl
@[simp] theorem soundTick_dma (s : State) : (soundTick s).dma = s.dma := rfl
@[simp] theorem soundTick_hdma (s : State) : (soundTick s).hdma = s.hdma := rfl
@[simp] theorem soundTick_apu (s : State) : (soundTick s).apu = (s.apu.clock s.cfg.sampleDivider).1 := rfl
@[simp] theorem soundTick_joypad (s : State) : (soundTick s).joypad = s.joypad := rfl
@[simp] theorem soundTick_serial (s : State) : (soundTick s).serial = s.serial := rfl
@[simp] theorem soundTick_svbk (s : State) : (soundTick s).svbk = s.svbk := rfl
@[simp] theorem soundTick_bootRomEnabled (s : State) : (soundTick s).bootRomEnabled = s.bootRomEnabled := rfl
@[simp] theorem soundTick_cart (s : State) : (soundTick s).cart = s.cart := rfl
@[simp] theorem soundTick_mem (s : State) : (soundTick s).mem = s.mem := rfl
@[simp] theorem soundTick_host (s : State) :
    (soundTick s).host =
      s.host.push (s.apu.clock s.cfg.sampleDivider).2 := rfl
@[simp] theorem soundTick_masterTicks (s : State) : (soundTick s).masterTicks = s.masterTicks := rfl

/-! ### `serialTick` -/

@[simp] theorem serialTick_cfg (s : State) : (serialTick s).cfg = s.cfg := rfl
@[simp] theorem serialTick_regs (s : State) : (serialTick s).regs = s.regs := rfl
@[simp] theorem serialTick_eng (s : State) : (serialTick s).eng = s.eng := rfl
@[simp] theorem serialTick_irq (s : State) :
    (serialTick s).irq =
      s.irq.requestIf (s.serial.tick s.cfg.serialPeer s.masterTicks).2 .serial := rfl
@[simp] theorem serialTick_spd (s : State) : (serialTick s).spd = s.spd := rfl
@[simp] theorem serialTick_timer (s : State) : (serialTick s).timer = s.timer := rfl
@[simp] theorem serialTick_ppu (s : State) : (serialTick s).ppu = s.ppu := rfl
@[simp] theorem serialTick_dma (s : State) : (serialTick s).dma = s.dma := rfl
@[simp] theorem serialTick_hdma (s : State) : (serialTick s).hdma = s.hdma := rfl
@[simp] theorem serialTick_apu (s : State) : (serialTick s).apu = s.apu := rfl
@[simp] theorem serialTick_joypad (s : State) : (serialTick s).joypad = s.joypad := rfl
@[simp] theorem serialTick_serial (s : State) :
    (serialTick s).serial =
      (s.serial.tick s.cfg.serialPeer s.masterTicks).1 := rfl
@[simp] theorem serialTick_svbk (s : State) : (serialTick s).svbk = s.svbk := rfl
@[simp] theorem serialTick_bootRomEnabled (s : State) : (serialTick s).bootRomEnabled = s.bootRomEnabled := rfl
@[simp] theorem serialTick_cart (s : State) : (serialTick s).cart = s.cart := rfl
@[simp] theorem serialTick_mem (s : State) : (serialTick s).mem = s.mem := rfl
@[simp] theorem serialTick_host (s : State) :
    (serialTick s).host =
      s.host.push (transferCalls (s.serial.tick s.cfg.serialPeer s.masterTicks).2 s.serial.sb) := rfl
@[simp] theorem serialTick_masterTicks (s : State) : (serialTick s).masterTicks = s.masterTicks := rfl

/-! ### `ppuTick` -/

@[simp] theorem ppuTick_cfg (s : State) : (ppuTick s).cfg = s.cfg := rfl
@[simp] theorem ppuTick_regs (s : State) : (ppuTick s).regs = s.regs := rfl
@[simp] theorem ppuTick_eng (s : State) : (ppuTick s).eng = s.eng := rfl
@[simp] theorem ppuTick_irq (s : State) :
    (ppuTick s).irq =
      (s.irq.requestIf (s.ppu.tick s.ppuEnv).vblank .vblank).requestIf (s.ppu.tick s.ppuEnv).stat .lcdc := rfl
@[simp] theorem ppuTick_spd (s : State) : (ppuTick s).spd = s.spd := rfl
@[simp] theorem ppuTick_timer (s : State) : (ppuTick s).timer = s.timer := rfl
@[simp] theorem ppuTick_ppu (s : State) : (ppuTick s).ppu = (s.ppu.tick s.ppuEnv).ppu := rfl
@[simp] theorem ppuTick_dma (s : State) : (ppuTick s).dma = s.dma := rfl
@[simp] theorem ppuTick_hdma (s : State) :
    (ppuTick s).hdma =
      s.hdma.observe (reportedMode s.ppu (s.ppu.tick s.ppuEnv).ppu) (s.ppu.tick s.ppuEnv).ppu.lcdEnabled := rfl
@[simp] theorem ppuTick_apu (s : State) : (ppuTick s).apu = s.apu := rfl
@[simp] theorem ppuTick_joypad (s : State) : (ppuTick s).joypad = s.joypad := rfl
@[simp] theorem ppuTick_serial (s : State) : (ppuTick s).serial = s.serial := rfl
@[simp] theorem ppuTick_svbk (s : State) : (ppuTick s).svbk = s.svbk := rfl
@[simp] theorem ppuTick_bootRomEnabled (s : State) : (ppuTick s).bootRomEnabled = s.bootRomEnabled := rfl
@[simp] theorem ppuTick_cart (s : State) : (ppuTick s).cart = s.cart := rfl
@[simp] theorem ppuTick_mem (s : State) : (ppuTick s).mem = s.mem := rfl
@[simp] theorem ppuTick_host (s : State) :
    (ppuTick s).host =
      (s.host.push (s.ppu.tick s.ppuEnv).calls).refresh (reportedMode s.ppu (s.ppu.tick s.ppuEnv).ppu) := rfl
@[simp] theorem ppuTick_masterTicks (s : State) : (ppuTick s).masterTicks = s.masterTicks := rfl

end Sys2Proof.Machine
end

