-- ==== Sys2Proof/Laws/Mmu.lean ====
section
/-! SUPPORT. What a write through the MMU can do (`memWrite_cases`), and what it leaves alone. -/

namespace Sys2Proof.Machine

/-- Everything a write at a place can do. -/
theorem writeAt_cases (s : State) (p : Place) (v : Byte) :
    (∃ k, p = .cell k ∧ writeAt s p v = { s with mem := Mem.write s.mem k v }) ∨
    (∃ n, p = .device n ∧ writeAt s p v = writeDevice s n v) ∨
    (∃ n, (p = .cart n ∨ p = .boot n) ∧ writeAt s p v = writeCart s n v) ∨
    (p = .void ∧ writeAt s p v = s) := by
  cases p with
  | cell k => exact .inl ⟨k, rfl, rfl⟩
  | cart n => exact .inr (.inr (.inl ⟨n, .inl rfl, rfl⟩))
  | boot n => exact .inr (.inr (.inl ⟨n, .inr rfl, rfl⟩))
  | device n => exact .inr (.inl ⟨n, rfl, rfl⟩)
  | void => exact .inr (.inr (.inr ⟨rfl, rfl⟩))

/-- Everything a write of the CPU can do. -/
theorem memWrite_cases (s : State) (a : Word) (v : Byte) :
    (∃ k, place s a = .cell k ∧ memWrite s a v = { s with mem := Mem.write s.mem k v }) ∨
    (∃ n, place s a = .device n ∧ memWrite s a v = writeDevice s n v) ∨
    (∃ n, (place s a = .cart n ∨ place s a = .boot n) ∧ memWrite s a v = writeCart s n v) ∨
    (place s a = .void ∧ memWrite s a v = s) := writeAt_cases s (place s a) v

section
variable (s : State) (p : Place) (a : Word) (v : Byte)

@[simp] theorem writeAt_cfg : (writeAt s p v).cfg = s.cfg := by cases p <;> rfl
@[simp] theorem writeAt_regs : (writeAt s p v).regs = s.regs := by cases p <;> rfl
@[simp] theorem writeAt_eng : (writeAt s p v).eng = s.eng := by cases p <;> rfl
@[simp] theorem writeAt_masterTicks : (writeAt s p v).masterTicks = s.masterTicks := by cases p <;> rfl
@[simp] theorem writeAt_ime : (writeAt s p v).irq.ime = s.irq.ime := by cases p <;> rfl
@[simp] theorem writeAt_pendingEnable : (writeAt s p v).irq.pendingEnable = s.irq.pendingEnable := by cases p <;> rfl
@[simp] theorem writeAt_pendingDisable : (writeAt s p v).irq.pendingDisable = s.irq.pendingDisable := by
  cases p <;> rfl
@[simp] theorem writeAt_speed : (writeAt s p v).spd.speed = s.spd.speed := by cases p <;> rfl

@[simp] theorem memWrite_cfg : (memWrite s a v).cfg = s.cfg := writeAt_cfg s _ v
@[simp] theorem memWrite_regs : (memWrite s a v).regs = s.regs := writeAt_regs s _ v
@[simp] theorem memWrite_eng : (memWrite s a v).eng = s.eng := writeAt_eng s _ v
@[simp] theorem memWrite_masterTicks : (memWrite s a v).masterTicks = s.masterTicks := writeAt_masterTicks s _ v
@[simp] theorem memWrite_ime : (memWrite s a v).irq.ime = s.irq.ime := writeAt_ime s _ v
@[simp] theorem memWrite_pendingEnable : (memWrite s a v).irq.pendingEnable = s.irq.pendingEnable :=
  writeAt_pendingEnable s _ v
@[simp] theorem memWrite_pendingDisable : (memWrite s a v).irq.pendingDisable = s.irq.pendingDisable :=
  writeAt_pendingDisable s _ v
@[simp] theorem memWrite_speed : (memWrite s a v).spd.speed = s.spd.speed := writeAt_speed s _ v

/-- A write at a place keeps storage in its canonical form. -/
theorem writeAt_wf (h : Mem.wf s.mem = true) : Mem.wf (writeAt s p v).mem = true := by
  cases p with
  | cell k => exact Mem.wf_write k v h
  | cart n => exact h
  | boot n => exact h
  | device n => exact h
  | void => exact h

/-- A write of the CPU keeps storage in its canonical form. -/
theorem memWrite_wf (h : Mem.wf s.mem = true) : Mem.wf (memWrite s a v).mem = true := writeAt_wf s _ v h

/-- A write of the HDMA engine keeps storage in its canonical form. -/
theorem mmuWrite_wf (h : Mem.wf s.mem = true) : Mem.wf (mmuWrite s a v).mem = true := writeAt_wf s _ v h

/-- Without the PPU's gate the CPU and the DMA engines see the same map. -/
theorem place_eq_region (h : s.cfg.ppuBlocksCpu = false) : place s a = region s a := by
  simp [place, State.gated, State.vramGated, State.oamGated, h]

/-- The flat ROM ignores writes (20_memory R96). -/
theorem writeCart_flat (n : Nat) (h : s.cfg.cartridge = .flatRom) : writeCart s n v = s := by
  simp [writeCart, Config.cartWrite, h]

end

/-- The memory a construction gives is in canonical form. -/
theorem initMem_wf (c : Config) : Mem.wf c.initMem = true := by
  have h : ∀ (ws : List (Nat × Byte)) (m : List Host.Cell), Mem.wf m = true →
      Mem.wf (ws.foldl (fun m w => Mem.write m w.1 w.2) m) = true := by
    intro ws
    induction ws with
    | nil => exact fun _ hm => hm
    | cons w ws ih => exact fun m hm => ih _ (Mem.wf_write _ _ hm)
  exact h c.initRam [] rfl

/-- A read of a cell. -/
theorem memRead_cell {s : State} {a : Word} {k : Nat} (h : place s a = .cell k) : memRead s a = Mem.read s.mem k := by
  simp [memRead, readAt, h]

theorem memWrite_cell {s : State} {a : Word} {k : Nat} (v : Byte) (h : place s a = .cell k) :
    memWrite s a v = { s with mem := Mem.write s.mem k v } := by simp [memWrite, writeAt, h]

theorem memWrite_device {s : State} {a : Word} {n : Nat} (v : Byte) (h : place s a = .device n) :
    memWrite s a v = writeDevice s n v := by simp [memWrite, writeAt, h]

theorem memWrite_cart {s : State} {a : Word} {n : Nat} (v : Byte) (h : place s a = .cart n ∨ place s a = .boot n) :
    memWrite s a v = writeCart s n v := by
  obtain h | h := h <;> simp [memWrite, writeAt, h]

theorem memWrite_void {s : State} {a : Word} (v : Byte) (h : place s a = .void) : memWrite s a v = s := by
  simp [memWrite, writeAt, h]

/-- Where an address leads depends on storage in no way. -/
theorem place_setMem (s : State) (m : List Host.Cell) (a : Word) : place { s with mem := m } a = place s a := rfl

/-- Where an address leads depends on the cartridge's state in no way. -/
theorem place_writeCart (s : State) (n : Nat) (v : Byte) (a : Word) : place (writeCart s n v) a = place s a := rfl

/-- A device register's value depends on storage in no way. -/
theorem readDevice_setMem (s : State) (m : List Host.Cell) (n : Nat) : readDevice { s with mem := m } n = readDevice s n :=
  rfl

/-- The place of an address depends on the registers and the engine in no way. -/
theorem place_setRegs (s : State) (r : Regs) (a : Word) : place (s.setRegs r) a = place s a := rfl

theorem memRead_setRegs (s : State) (r : Regs) (a : Word) : memRead (s.setRegs r) a = memRead s a := rfl

theorem memRead_setCtx (s : State) (v : Word) (a : Word) : memRead (s.setCtx v) a = memRead s a := rfl

theorem memRead_setFsm (s : State) (f : Fsm) (a : Word) : memRead (s.setFsm f) a = memRead s a := rfl

theorem memRead_setOpIndex (s : State) (n : Nat) (a : Word) : memRead (s.setOpIndex n) a = memRead s a := rfl

/-- The keys of memory cells: above those of the flat ROM. -/
theorem region_cell_key {s : State} {a : Word} {k : Nat} (h : region s a = .cell k) : 0x8000 ≤ k ∧ k < 0x70000 := by
  have hv : s.ppu.vbk.toNat < 2 := s.ppu.vbk.isLt
  have hs : s.svbk.toNat < 8 := s.svbk.isLt
  have ha : a.toNat < 65536 := a.isLt
  unfold region at h
  simp only [State.vramKey, State.wramKey] at h
  repeat' split at h
  all_goals first
    | (injection h with h; omega)
    | cases h

theorem place_cell_key {s : State} {a : Word} {k : Nat} (h : place s a = .cell k) : 0x8000 ≤ k ∧ k < 0x70000 := by
  unfold place at h
  split at h
  · cases h
  · exact region_cell_key h

/-- The flat ROM's bytes are not memory cells: a store to a cell leaves them. -/
theorem cartRead_write (c : Config) (cart : Nat) (m : List Host.Cell) {k : Nat} (n : Nat) (v : Byte) (h : 0x8000 ≤ k) :
    c.cartRead cart (Mem.write m k v) n = c.cartRead cart m n := by
  unfold Config.cartRead
  split
  · split
    · exact Mem.read_write_other v (by omega)
    · rfl
  · rfl

end Sys2Proof.Machine
end

