-- ==== Sys2Proof/Laws/Time.lean ====
section
/-! SUPPORT. What the passage of time leaves alone: the registers, the configuration, IME and its counters, the speed,
and of the engine everything but the sub-cycle counter. -/

namespace Sys2Proof.Machine

section
variable (q : IrqCtl) (b : Bool) (i : Irq)

@[simp] theorem IrqCtl.requestIf_ime : (q.requestIf b i).ime = q.ime := rfl
@[simp] theorem IrqCtl.requestIf_ie : (q.requestIf b i).ie = q.ie := rfl
@[simp] theorem IrqCtl.requestIf_pendingEnable : (q.requestIf b i).pendingEnable = q.pendingEnable := rfl
@[simp] theorem IrqCtl.requestIf_pendingDisable : (q.requestIf b i).pendingDisable = q.pendingDisable := rfl
@[simp] theorem IrqCtl.requestIf_false : q.requestIf false i = q := rfl

end

/-- The part of the state that time alone never changes. -/
structure Timeless where
  cfg : Config
  regs : Regs
  eng : Engine
  ime : Bool
  pendingEnable : Delay
  pendingDisable : Delay
  speed : Speed

/-- That part of a state, the engine without its sub-cycle counter. -/
def State.timeless (s : State) : Timeless :=
  { cfg := s.cfg, regs := s.regs, eng := { s.eng with clockCycle := 0 }, ime := s.irq.ime
    pendingEnable := s.irq.pendingEnable, pendingDisable := s.irq.pendingDisable, speed := s.spd.speed }

theorem memWrite_timeless (s : State) (a : Word) (v : Byte) : (memWrite s a v).timeless = s.timeless := by
  simp [State.timeless]

theorem mmuWrite_timeless (s : State) (a : Word) (v : Byte) : (mmuWrite s a v).timeless = s.timeless := by
  simp [State.timeless, mmuWrite]

theorem copyBlock_timeless (src dst : Word) (n j : Nat) (s : State) :
    (copyBlock src dst n j s).timeless = s.timeless := by
  induction n generalizing j s with
  | zero => rfl
  | succ n ih => rw [copyBlock, ih, mmuWrite_timeless]

theorem hdmaTick_timeless (s : State) : (hdmaTick s).timeless = s.timeless := by
  unfold hdmaTick
  split
  · rfl
  · exact copyBlock_timeless _ _ _ _ _

theorem preCpu_timeless (s : State) : (preCpu s).timeless = s.timeless := rfl

theorem postCpu_timeless (s : State) : (postCpu s).timeless = s.timeless := rfl

theorem countCycle_timeless (s : State) : (countCycle s).timeless = s.timeless := rfl

theorem toSlot_timeless (n : Nat) (s : State) : (toSlot n s).timeless = s.timeless := by
  induction n generalizing s with
  | zero => rfl
  | succ n ih =>
    simp only [toSlot]
    split
    · rw [ih, postCpu_timeless, hdmaTick_timeless, preCpu_timeless]
    · split
      · rw [countCycle_timeless, preCpu_timeless]
      · rw [ih, postCpu_timeless, countCycle_timeless, preCpu_timeless]

theorem nextSlot_timeless (s : State) : (nextSlot s).timeless = s.timeless := toSlot_timeless _ s

theorem nextCycle_timeless (s : State) : (nextCycle s).timeless = s.timeless := by
  rw [nextCycle, nextSlot_timeless, postCpu_timeless]

section
variable (s : State)

@[simp] theorem nextCycle_cfg : (nextCycle s).cfg = s.cfg := congrArg Timeless.cfg (nextCycle_timeless s)
@[simp] theorem nextCycle_regs : (nextCycle s).regs = s.regs := congrArg Timeless.regs (nextCycle_timeless s)
@[simp] theorem nextCycle_ime : (nextCycle s).irq.ime = s.irq.ime := congrArg Timeless.ime (nextCycle_timeless s)
@[simp] theorem nextCycle_pendingEnable : (nextCycle s).irq.pendingEnable = s.irq.pendingEnable :=
  congrArg Timeless.pendingEnable (nextCycle_timeless s)
@[simp] theorem nextCycle_pendingDisable : (nextCycle s).irq.pendingDisable = s.irq.pendingDisable :=
  congrArg Timeless.pendingDisable (nextCycle_timeless s)
@[simp] theorem nextCycle_speed : (nextCycle s).spd.speed = s.spd.speed := congrArg Timeless.speed (nextCycle_timeless s)
@[simp] theorem nextCycle_ctx : (nextCycle s).eng.ctx = s.eng.ctx :=
  congrArg (fun t => t.eng.ctx) (nextCycle_timeless s)
@[simp] theorem nextCycle_opIndex : (nextCycle s).eng.opIndex = s.eng.opIndex :=
  congrArg (fun t => t.eng.opIndex) (nextCycle_timeless s)
@[simp] theorem nextCycle_fsm : (nextCycle s).eng.fsm = s.eng.fsm :=
  congrArg (fun t => t.eng.fsm) (nextCycle_timeless s)
@[simp] theorem nextCycle_faulted : (nextCycle s).eng.faulted = s.eng.faulted :=
  congrArg (fun t => t.eng.faulted) (nextCycle_timeless s)
@[simp] theorem nextCycle_irqSel : (nextCycle s).eng.irqSel = s.eng.irqSel :=
  congrArg (fun t => t.eng.irqSel) (nextCycle_timeless s)
@[simp] theorem nextCycle_opcode1 : (nextCycle s).eng.opcode1 = s.eng.opcode1 :=
  congrArg (fun t => t.eng.opcode1) (nextCycle_timeless s)
@[simp] theorem nextCycle_opcode2 : (nextCycle s).eng.opcode2 = s.eng.opcode2 :=
  congrArg (fun t => t.eng.opcode2) (nextCycle_timeless s)
@[simp] theorem nextCycle_operand0 : (nextCycle s).eng.operand0 = s.eng.operand0 :=
  congrArg (fun t => t.eng.operand0) (nextCycle_timeless s)
@[simp] theorem nextCycle_operand1 : (nextCycle s).eng.operand1 = s.eng.operand1 :=
  congrArg (fun t => t.eng.operand1) (nextCycle_timeless s)
@[simp] theorem nextCycle_operandIndex : (nextCycle s).eng.operandIndex = s.eng.operandIndex :=
  congrArg (fun t => t.eng.operandIndex) (nextCycle_timeless s)
@[simp] theorem nextCycle_entry : (nextCycle s).eng.entry = s.eng.entry :=
  congrArg (fun t => t.eng.entry) (nextCycle_timeless s)
@[simp] theorem nextCycle_haltBugMode : (nextCycle s).eng.haltBugMode = s.eng.haltBugMode :=
  congrArg (fun t => t.eng.haltBugMode) (nextCycle_timeless s)
@[simp] theorem nextCycle_irqIF : (nextCycle s).eng.irqIF = s.eng.irqIF :=
  congrArg (fun t => t.eng.irqIF) (nextCycle_timeless s)
@[simp] theorem nextCycle_irqIE : (nextCycle s).eng.irqIE = s.eng.irqIE :=
  congrArg (fun t => t.eng.irqIE) (nextCycle_timeless s)

@[simp] theorem nextSlot_regs : (nextSlot s).regs = s.regs := congrArg Timeless.regs (nextSlot_timeless s)
@[simp] theorem nextSlot_cfg : (nextSlot s).cfg = s.cfg := congrArg Timeless.cfg (nextSlot_timeless s)
@[simp] theorem nextSlot_fsm : (nextSlot s).eng.fsm = s.eng.fsm :=
  congrArg (fun t => t.eng.fsm) (nextSlot_timeless s)
@[simp] theorem nextSlot_faulted : (nextSlot s).eng.faulted = s.eng.faulted :=
  congrArg (fun t => t.eng.faulted) (nextSlot_timeless s)

end

end Sys2Proof.Machine
end

