-- ==== Sys2Proof/Laws/Commute.lean ====
section
/-! SUPPORT. The passage of time and the MMU do not look at the registers, nor at the engine beyond its sub-cycle
counter: an update of either commutes with them. -/

namespace Sys2Proof.Machine

/-- A state with other registers and with the engine updated in fields that only the CPU looks at. -/
def State.withCpu (s : State) (r : Regs) (e : Engine) : State :=
  { s with regs := r, eng := { e with clockCycle := s.eng.clockCycle } }

theorem State.withCpu_self (s : State) : s.withCpu s.regs s.eng = s := rfl

theorem setRegs_eq_withCpu (s : State) (r : Regs) : s.setRegs r = s.withCpu r s.eng := rfl

theorem setCtx_eq_withCpu (s : State) (v : Word) : s.setCtx v = s.withCpu s.regs { s.eng with ctx := v } := rfl

theorem setOpIndex_eq_withCpu (s : State) (n : Nat) : s.setOpIndex n = s.withCpu s.regs { s.eng with opIndex := n } := rfl

theorem setFsm_eq_withCpu (s : State) (f : Fsm) : s.setFsm f = s.withCpu s.regs { s.eng with fsm := f } := rfl

@[simp] theorem State.withCpu_withCpu (s : State) (r r' : Regs) (e e' : Engine) :
    (s.withCpu r e).withCpu r' e' = s.withCpu r' e' := rfl

section
variable (s : State) (r : Regs) (e : Engine)

@[simp] theorem withCpu_regs : (s.withCpu r e).regs = r := rfl
@[simp] theorem withCpu_eng : (s.withCpu r e).eng = { e with clockCycle := s.eng.clockCycle } := rfl
@[simp] theorem withCpu_mem : (s.withCpu r e).mem = s.mem := rfl
@[simp] theorem withCpu_irq : (s.withCpu r e).irq = s.irq := rfl
@[simp] theorem withCpu_cfg : (s.withCpu r e).cfg = s.cfg := rfl

@[simp] theorem memRead_withCpu (a : Word) : memRead (s.withCpu r e) a = memRead s a := rfl

@[simp] theorem mmuRead_withCpu (a : Word) : mmuRead (s.withCpu r e) a = mmuRead s a := rfl

theorem place_withCpu (a : Word) : place (s.withCpu r e) a = place s a := rfl

theorem writeAt_withCpu (p : Place) (v : Byte) : writeAt (s.withCpu r e) p v = (writeAt s p v).withCpu r e := by
  cases p <;> rfl

theorem memWrite_withCpu (a : Word) (v : Byte) : memWrite (s.withCpu r e) a v = (memWrite s a v).withCpu r e :=
  writeAt_withCpu s r e (place s a) v

theorem mmuWrite_withCpu (a : Word) (v : Byte) : mmuWrite (s.withCpu r e) a v = (mmuWrite s a v).withCpu r e :=
  writeAt_withCpu s r e (region s a) v

theorem oamBug_withCpu (k : Option OamCause) : oamBug k (s.withCpu r e) = (oamBug k s).withCpu r e := by
  unfold oamBug
  cases k with
  | none => rfl
  | some k =>
    have h : (s.withCpu r e).oamBugWindow = s.oamBugWindow := rfl
    have hc : (s.withCpu r e).corruptedOam k = s.corruptedOam k := by unfold State.corruptedOam; rfl
    simp only [h, hc, withCpu_mem]
    by_cases hw : s.oamBugWindow = true
    · rw [if_pos hw, if_pos hw]
      generalize Mem.writeAll _ _ _ = m
      rfl
    · rw [if_neg hw, if_neg hw]

theorem copyBlock_withCpu (src dst : Word) (n j : Nat) :
    copyBlock src dst n j (s.withCpu r e) = (copyBlock src dst n j s).withCpu r e := by
  induction n generalizing j s with
  | zero => rfl
  | succ n ih => rw [copyBlock, mmuRead_withCpu, mmuWrite_withCpu, ih, copyBlock]

theorem hdmaTick_withCpu : hdmaTick (s.withCpu r e) = (hdmaTick s).withCpu r e := by
  unfold hdmaTick
  have h : hdmaCount (s.withCpu r e) = (hdmaCount s).withCpu r e := rfl
  have ht : (s.withCpu r e).hdma = s.hdma := rfl
  rw [h, copyBlock_withCpu, ht, withCpu_cfg]
  by_cases hc : s.hdma.tick + 1 < s.cfg.hdmaBlockTicks
  · rw [if_pos hc, if_pos hc]
  · rw [if_neg hc, if_neg hc]; rfl

theorem preCpu_withCpu : preCpu (s.withCpu r e) = (preCpu s).withCpu r e := rfl
theorem postCpu_withCpu : postCpu (s.withCpu r e) = (postCpu s).withCpu r e := rfl
theorem countCycle_withCpu : countCycle (s.withCpu r e) = (countCycle s).withCpu r e := rfl

theorem toSlot_withCpu (n : Nat) : toSlot n (s.withCpu r e) = (toSlot n s).withCpu r e := by
  induction n generalizing s with
  | zero => rfl
  | succ n ih =>
    simp only [toSlot, preCpu_withCpu, hdmaTick_withCpu, countCycle_withCpu, postCpu_withCpu, ih]
    have ha : ((preCpu s).withCpu r e).hdmaActive = (preCpu s).hdmaActive := rfl
    have hg : ((preCpu s).withCpu r e).atGate = (preCpu s).atGate := rfl
    simp only [ha, hg]
    split
    · rfl
    · split <;> rfl

theorem nextSlot_withCpu : nextSlot (s.withCpu r e) = (nextSlot s).withCpu r e := toSlot_withCpu s r e _

theorem nextCycle_withCpu : nextCycle (s.withCpu r e) = (nextCycle s).withCpu r e := by
  rw [nextCycle, postCpu_withCpu, nextSlot_withCpu, nextCycle]

end

end Sys2Proof.Machine
end

