-- ==== Sys2Proof/Laws/Decode.lean ====
section
/-! SUPPORT. The small lemmas of the decoder and the encoder: what `decode` answers once the opcode byte is known, and
the round trip of each encoding format. -/

namespace Sys2Proof.Machine

@[simp] theorem joinBytes_hi_lo (w : Word) : joinBytes (hiByte w) (loByte w) = w := by
  apply BitVec.eq_of_getLsbD_eq
  intro i hi
  simp only [joinBytes, hiByte, loByte, BitVec.getLsbD_append, BitVec.getLsbD_extractLsb']
  by_cases h : i < 8
  · simp [h]
  · simp only [h, if_false]
    have : i - 8 < 8 := by omega
    simp [this, show 8 + (i - 8) = i by omega]

@[simp] theorem hiByte_joinBytes (h l : Byte) : hiByte (joinBytes h l) = h := by
  apply BitVec.eq_of_getLsbD_eq
  intro i hi
  simp only [joinBytes, hiByte, BitVec.getLsbD_extractLsb', BitVec.getLsbD_append]
  simp [hi, show ¬ 8 + i < 8 by omega]

@[simp] theorem loByte_joinBytes (h l : Byte) : loByte (joinBytes h l) = l := by
  apply BitVec.eq_of_getLsbD_eq
  intro i hi
  simp only [joinBytes, loByte, BitVec.getLsbD_extractLsb', BitVec.getLsbD_append]
  simp [hi]

end Sys2Proof.Machine

namespace Sys2Proof

theorem decode_tail0 {b0 : Byte} (h : Decode.tailLength b0 = 0) (rest : List Byte) :
    decode (b0 :: rest) = .ok (Decode.decodeBytes b0 0 0, rest) := by
  match rest with
  | [] => simp [decode, h]
  | [_] => simp [decode, h]
  | _ :: _ :: _ => simp [decode, h]

theorem decode_tail1 {b0 : Byte} (h : Decode.tailLength b0 = 1) (b1 : Byte) (rest : List Byte) :
    decode (b0 :: b1 :: rest) = .ok (Decode.decodeBytes b0 b1 0, rest) := by
  match rest with
  | [] => simp [decode, h]
  | _ :: _ => simp [decode, h]

theorem decode_tail2 {b0 : Byte} (h : Decode.tailLength b0 = 2) (b1 b2 : Byte) (rest : List Byte) :
    decode (b0 :: b1 :: b2 :: rest) = .ok (Decode.decodeBytes b0 b1 b2, rest) := by
  simp [decode, h]

/-- A displacement in range is the signed reading of its byte. -/
theorem toInt_ofInt_displacement {e : Int} (h : displacementOk e = true) : (BitVec.ofInt 8 e).toInt = e := by
  simp only [displacementOk, Bool.and_eq_true, decide_eq_true_eq] at h
  rw [BitVec.toInt_ofInt]
  exact Int.bmod_eq_of_le (by omega) (by omega)

namespace Laws.RoundTrip

/-- Decoding the encoding of a well-formed instruction, followed by anything, gives it back and leaves the rest. -/
def Statement (i : Instr) : Prop := i.wf = true → ∀ rest, decode (encode i ++ rest) = .ok (i, rest)

theorem of0 {i : Instr} (b : Byte) (he : encode i = [b]) (ht : Decode.tailLength b = 0)
    (hd : Decode.decodeBytes b 0 0 = i) : Statement i := by
  intro _ rest
  rw [he, List.singleton_append, decode_tail0 ht, hd]

theorem ofI8 {i : Instr} (b n : Byte) (he : encode i = [b, n]) (ht : Decode.tailLength b = 1)
    (hd : Decode.decodeBytes b n 0 = i) : Statement i := by
  intro _ rest
  rw [he, List.cons_append, List.singleton_append, decode_tail1 ht, hd]

theorem ofCb {i : Instr} (n : Byte) (he : encode i = [0xCB, n]) (hd : Decode.decodeBytes 0xCB n 0 = i) : Statement i :=
  ofI8 0xCB n he rfl hd

theorem ofRel (b : Byte) (e : Int) (mk : Int → Instr) (he : encode (mk e) = [b, BitVec.ofInt 8 e])
    (ht : Decode.tailLength b = 1) (hw : (mk e).wf = displacementOk e) (hd : ∀ n : Byte, Decode.decodeBytes b n 0 = mk n.toInt) :
    Statement (mk e) := by
  intro h rest
  rw [he, List.cons_append, List.singleton_append, decode_tail1 ht, hd, toInt_ofInt_displacement (hw ▸ h)]

theorem ofI16 (b : Byte) (nn : Word) (mk : Word → Instr)
    (he : encode (mk nn) = [b, Machine.loByte nn, Machine.hiByte nn]) (ht : Decode.tailLength b = 2)
    (hd : ∀ l h : Byte, Decode.decodeBytes b l h = mk (Machine.joinBytes h l)) : Statement (mk nn) := by
  intro _ rest
  rw [he]
  change decode (b :: Machine.loByte nn :: Machine.hiByte nn :: rest) = _
  rw [decode_tail2 ht, hd, Machine.joinBytes_hi_lo]

end Laws.RoundTrip

end Sys2Proof
end

