-- ==== Sys2Proof/Laws/Exec.lean ====
section
/-! SUPPORT. An instruction's meaning is that of its form: proofs about instructions become proofs about forms. -/

namespace Sys2Proof.Machine

/-- Every arm of `exec` is the meaning of the instruction's form. -/
theorem exec_form (i : Instr) (s : State) : exec i s = formExec (form i) s := by cases i <;> rfl

theorem exec_of_form {i : Instr} {f : Form} (h : form i = f) (s : State) : exec i s = formExec f s := by
  rw [exec_form, h]

end Sys2Proof.Machine
end

