-- ==== Sys2Proof/Laws/Micro.lean ====
section
/-! SUPPORT. What each micro-operation does, once, in the form "another register file and other engine temporaries over
an otherwise known state" (`State.withCpu`), and how a list of them runs; then how an instruction ends. -/

namespace Sys2Proof.Machine

/-! ### The engine without its temporaries -/

/-- The engine without its sub-cycle counter, context and micro-op index. -/
def Engine.core (e : Engine) : Engine := { e with clockCycle := 0, ctx := 0, opIndex := 0 }

theorem nextCycle_engCore (s : State) : (nextCycle s).eng.core = s.eng.core :=
  congrArg (fun t => t.eng.core) (nextCycle_timeless s)

@[simp] theorem memWrite_engCore (s : State) (a : Word) (v : Byte) : (memWrite s a v).eng.core = s.eng.core := by simp

theorem oamBug_cases (k : Option OamCause) (s : State) : ∃ m, oamBug k s = { s with mem := m } := by
  unfold oamBug
  cases k with
  | none => exact ⟨s.mem, rfl⟩
  | some k =>
    simp only
    split
    · exact ⟨_, rfl⟩
    · exact ⟨s.mem, rfl⟩

@[simp] theorem oamBug_none (s : State) : oamBug none s = s := rfl

section
variable (k : Option OamCause) (s : State)

@[simp] theorem oamBug_regs : (oamBug k s).regs = s.regs := by obtain ⟨m, h⟩ := oamBug_cases k s; rw [h]
@[simp] theorem oamBug_eng : (oamBug k s).eng = s.eng := by obtain ⟨m, h⟩ := oamBug_cases k s; rw [h]
@[simp] theorem oamBug_irq : (oamBug k s).irq = s.irq := by obtain ⟨m, h⟩ := oamBug_cases k s; rw [h]
@[simp] theorem oamBug_cfg : (oamBug k s).cfg = s.cfg := by obtain ⟨m, h⟩ := oamBug_cases k s; rw [h]

end

/-! ### Running a list -/

theorem runOps_nil (b : Bool) (s : State) : runOps b [] s = finish s := rfl

/-- An operation that does not touch memory runs in the current M-cycle. -/
theorem runOps_plain {op : MicroOp} (hm : op.mem = false) (hf : op.isFin = false) (hp : ∀ s, op.proceeds s = true)
    (b : Bool) (rest : List MicroOp) (s : State) : runOps b (op :: rest) s = runOps b rest (op.step s) := by
  simp [runOps, hm, hf, hp]

/-- A memory operation takes the slot of the current M-cycle if it is free. -/
theorem runOps_free {op : MicroOp} (hm : op.mem = true) (hf : op.isFin = false) (hp : ∀ s, op.proceeds s = true)
    (rest : List MicroOp) (s : State) : runOps false (op :: rest) s = runOps true rest (op.step s) := by
  simp [runOps, hm, hf, hp]

/-- A memory operation waits for the next M-cycle if the slot is taken. -/
theorem runOps_taken {op : MicroOp} (hm : op.mem = true) (hf : op.isFin = false) (hp : ∀ s, op.proceeds s = true)
    (rest : List MicroOp) (s : State) : runOps true (op :: rest) s = runOps true rest (op.step (nextCycle s)) := by
  simp [runOps, hm, hf, hp]

/-- FIN ends the current M-cycle. -/
theorem runOps_fin (b : Bool) (rest : List MicroOp) (s : State) :
    runOps b (.fin :: rest) s = runOps false rest (nextCycle (MicroOp.fin.step s)) := by
  simp [runOps, MicroOp.mem, MicroOp.isFin, MicroOp.proceeds]

/-- IFCC: the rest runs or the instruction ends. -/
theorem runOps_ifCc (c : Cond) (b : Bool) (rest : List MicroOp) (s : State) :
    runOps b (.ifCc c :: rest) s =
      if s.regs.flags.holds c then runOps b rest ((MicroOp.ifCc c).step s)
      else finish (((MicroOp.ifCc c).step s).setOpIndex (((MicroOp.ifCc c).step s).eng.opIndex + rest.length)) := by
  cases h : s.regs.flags.holds c <;> simp [runOps, MicroOp.mem, MicroOp.isFin, MicroOp.proceeds, h]

/-! ### One operation -/

section
variable (s : State)

theorem MicroOp.step_withCpu (op : MicroOp) :
    op.step s = op.run ((oamBug (op.cause s) s).withCpu s.regs { s.eng with opIndex := s.eng.opIndex + 1 }) := by
  rw [MicroOp.step, setOpIndex_eq_withCpu, oamBug_withCpu]

theorem run_ldr (r : RegName) : (MicroOp.ldr r).run s = s.withCpu s.regs { s.eng with ctx := s.regs.load r } := rfl
theorem run_str (r : RegName) : (MicroOp.str r).run s = s.withCpu (s.regs.store r s.eng.ctx) s.eng := rfl
theorem run_imm8 (n : Byte) : (MicroOp.imm8 n).run s = s.withCpu s.regs { s.eng with ctx := zext16 n } := rfl
theorem run_imm16 (n : Word) : (MicroOp.imm16 n).run s = s.withCpu s.regs { s.eng with ctx := n } := rfl
theorem run_const (n : Word) : (MicroOp.const n).run s = s.withCpu s.regs { s.eng with ctx := n } := rfl
theorem run_rd (am : AddrMode) :
    (MicroOp.rd am).run s = s.withCpu s.regs { s.eng with ctx := zext16 (memRead s (s.regs.addr am)) } := rfl
theorem run_wr (am : AddrMode) : (MicroOp.wr am).run s = memWrite s (s.regs.addr am) (loByte s.eng.ctx) := rfl
theorem run_wr16Lo (a : Word) : (MicroOp.wr16Lo a).run s = memWrite s a (loByte s.eng.ctx) := rfl
theorem run_wr16Hi (a : Word) : (MicroOp.wr16Hi a).run s = memWrite s (a + 1) (hiByte s.eng.ctx) := rfl
theorem run_alu1 (f : Alu1) : (MicroOp.alu1 f).run s =
    s.withCpu (s.regs.setFlags (f.apply s.regs.flags (loByte s.eng.ctx)).flags)
      { s.eng with ctx := zext16 (f.apply s.regs.flags (loByte s.eng.ctx)).val } := rfl
theorem run_clrz : MicroOp.clrz.run s = s.withCpu (s.regs.setFlags { s.regs.flags with z := false }) s.eng := rfl
theorem run_alu2 (op : AluOp) (src : AluSource) : (MicroOp.alu2 op src).run s =
    s.withCpu
      (s.regs.setFlags (Alu.two op s.regs.flags (loByte s.eng.ctx) (MicroOp.sourceValue s src)).flags)
      { s.eng with ctx := zext16 (Alu.two op s.regs.flags (loByte s.eng.ctx) (MicroOp.sourceValue s src)).val } := rfl
theorem run_inc16 : MicroOp.inc16.run s = s.withCpu s.regs { s.eng with ctx := s.eng.ctx + 1 } := rfl
theorem run_dec16 : MicroOp.dec16.run s = s.withCpu s.regs { s.eng with ctx := s.eng.ctx - 1 } := rfl
theorem run_addHl (rr : Reg16) : (MicroOp.addHl rr).run s =
    s.withCpu (s.regs.setFlags (Alu.addHl s.regs.flags s.eng.ctx (s.regs.get16 rr)).flags)
      { s.eng with ctx := (Alu.addHl s.regs.flags s.eng.ctx (s.regs.get16 rr)).val } := rfl
theorem run_addSp (e : Byte) : (MicroOp.addSp e).run s =
    s.withCpu (s.regs.setFlags (Alu.addSp s.eng.ctx e).flags) { s.eng with ctx := (Alu.addSp s.eng.ctx e).val } := rfl
theorem run_addRel (e : Byte) :
    (MicroOp.addRel e).run s = s.withCpu s.regs { s.eng with ctx := s.eng.ctx + sext16 e } := rfl
theorem run_bit (b : Fin 8) : (MicroOp.bit b).run s =
    s.withCpu (s.regs.setFlags (Alu.bitTest s.regs.flags b.val (loByte s.eng.ctx))) s.eng := rfl
theorem run_bitHl (b : Fin 8) : (MicroOp.bitHl b).run s =
    s.withCpu (s.regs.setFlags (Alu.bitTest s.regs.flags b.val (memRead s s.regs.hl))) s.eng := rfl
theorem run_res (b : Fin 8) :
    (MicroOp.res b).run s = s.withCpu s.regs { s.eng with ctx := s.eng.ctx &&& ~~~(1#16 <<< b.val) } := rfl
theorem run_set (b : Fin 8) :
    (MicroOp.set b).run s = s.withCpu s.regs { s.eng with ctx := s.eng.ctx ||| (1#16 <<< b.val) } := rfl
theorem run_hlInc : MicroOp.hlInc.run s = s.withCpu (s.regs.setHl (s.regs.hl + 1)) s.eng := rfl
theorem run_hlDec : MicroOp.hlDec.run s = s.withCpu (s.regs.setHl (s.regs.hl - 1)) s.eng := rfl

theorem pushByte_withCpu (v : Byte) :
    pushByte s v = (memWrite s (s.regs.sp - 1) v).withCpu { s.regs with sp := s.regs.sp - 1 } s.eng := by
  rw [pushByte, setRegs_eq_withCpu, memWrite_withCpu]

theorem run_pushHi : MicroOp.pushHi.run s =
    (memWrite s (s.regs.sp - 1) (hiByte s.eng.ctx)).withCpu { s.regs with sp := s.regs.sp - 1 } s.eng :=
  pushByte_withCpu s _
theorem run_pushLo : MicroOp.pushLo.run s =
    (memWrite s (s.regs.sp - 1) (loByte s.eng.ctx)).withCpu { s.regs with sp := s.regs.sp - 1 } s.eng :=
  pushByte_withCpu s _
theorem run_popLo : MicroOp.popLo.run s =
    s.withCpu { s.regs with sp := s.regs.sp + 1 } { s.eng with ctx := zext16 (memRead s s.regs.sp) } := rfl
theorem run_popHi : MicroOp.popHi.run s =
    s.withCpu { s.regs with sp := s.regs.sp + 1 }
      { s.eng with ctx := s.eng.ctx ||| (zext16 (memRead s s.regs.sp) <<< 8) } := rfl
theorem run_ifCc (c : Cond) : (MicroOp.ifCc c).run s = s := rfl
theorem run_wait : MicroOp.wait.run s = s := rfl
theorem run_fin : MicroOp.fin.run s = s := rfl
theorem run_imeOn (b : Bool) : (MicroOp.imeOn b).run s = enableInterrupts b s := rfl
theorem run_imeOff (b : Bool) : (MicroOp.imeOff b).run s = disableInterrupts b s := rfl

theorem enableInterrupts_withCpu (b : Bool) (r : Regs) (e : Engine) :
    enableInterrupts b (s.withCpu r e) = (enableInterrupts b s).withCpu r e := rfl

theorem disableInterrupts_withCpu (b : Bool) (r : Regs) (e : Engine) :
    disableInterrupts b (s.withCpu r e) = (disableInterrupts b s).withCpu r e := rfl

end

/-! ### The end -/

@[simp] theorem loByte_zext16 (b : Byte) : loByte (zext16 b) = b := by
  unfold loByte zext16
  ext i hi
  simp [hi]
  omega


theorem instructionFinished_ifFlags (q : IrqCtl) (d : Bool) : (q.instructionFinished d).ifFlags = q.ifFlags := by
  obtain ⟨im, pe, pd, fl, ie⟩ := q
  cases pe <;> cases pd <;> rfl

theorem instructionFinished_ie (q : IrqCtl) (d : Bool) : (q.instructionFinished d).ie = q.ie := by
  obtain ⟨im, pe, pd, fl, ie⟩ := q
  cases pe <;> cases pd <;> rfl

/-- No address shows IME or its delay counters. -/
theorem memRead_setIrq (s : State) (q : IrqCtl) (a : Word) (hf : q.ifFlags = s.irq.ifFlags) (he : q.ie = s.irq.ie) :
    memRead (s.setIrq q) a = memRead s a := by
  have hp : place (s.setIrq q) a = place s a := rfl
  have hr : ∀ n, readDevice (s.setIrq q) n = readDevice s n := by
    intro n
    simp [readDevice, State.setIrq, IrqCtl.readIf, hf, he]
  unfold memRead
  rw [hp]
  cases place s a with
  | cell k => rfl
  | cart n => rfl
  | boot n => rfl
  | device n => exact hr n
  | void => rfl

/-- An instruction that leaves the machine `u` with other registers and engine temporaries ends in `u`. -/
theorem ends_finish {u : State} (r : Regs) {e : Engine} (h : e.core = u.eng.core) : Ends u r (finish (u.withCpu r e)) := by
  obtain ⟨f, cc, o1, o2, p0, p1, oi, en, ix, cx, hb, i1, i2, sel, fl⟩ := e
  obtain ⟨cfg, regs, ⟨f, cc', o1', o2', p0', p1', oi', en', ix', cx', hb', i1', i2', sel', fl'⟩, irq, spd, tim, ppu, dma,
    hd, apu, joy, ser, sv, br, ct, mem, hs, mt⟩ := u
  simp only [Engine.core, Engine.mk.injEq] at h
  obtain ⟨rfl, -, rfl, rfl, rfl, rfl, rfl, rfl, -, -, rfl, rfl, rfl, rfl, rfl⟩ := h
  refine ⟨rfl, rfl, rfl, rfl, fun b => ?_⟩
  have hr := memRead_setIrq { cfg := cfg, regs := regs
                              eng := ⟨f, cc', o1, o2, p0, p1, oi, en, ix', cx', hb, i1, i2, sel, fl⟩
                              irq := irq, spd := spd, timer := tim, ppu := ppu, dma := dma, hdma := hd, apu := apu
                              joypad := joy, serial := ser, svbk := sv, bootRomEnabled := br, cart := ct, mem := mem, host := hs
                              masterTicks := mt } (irq.instructionFinished cfg.diDelay) b
    (instructionFinished_ifFlags irq cfg.diDelay) (instructionFinished_ie irq cfg.diDelay)
  exact hr

/-- To show that an instruction completes, run its list to the form "finish of a known state with other registers". -/
theorem completes_of_run {i : Instr} {f : Form} {s u : State} {r r' : Regs} {e : Engine} {ops : List MicroOp}
    (h : form i = f) (hf : formExec f s = runMicro ops s) (hr : runOps true ops s = finish (u.withCpu r' e))
    (hrr : r' = r) (he : e.core = u.eng.core) : Completes i s u r := by
  subst hrr
  exact ⟨_, (exec_of_form h s).trans (hf.trans (by rw [runMicro, hr])), ends_finish r' he⟩

/-- A write that reaches the cartridge leaves every other place, and the flat ROM, as they read before. -/
theorem memRead_writeCart (u : State) (n : Nat) (v : Byte) (b : Word)
    (h : u.cfg.cartridge = .flatRom ∨ ∀ m, place u b ≠ .cart m) : memRead (writeCart u n v) b = memRead u b := by
  obtain h | h := h
  · rw [writeCart_flat u v n h]
  · unfold memRead
    rw [place_writeCart]
    cases hp : place u b with
    | cell k => rfl
    | cart m => exact absurd hp (h m)
    | boot m => rfl
    | device m => rfl
    | void => rfl

/-- A store leaves alone what `Stored` says. -/
theorem stored_memWrite (u : State) (a : Word) (v : Byte) : Stored u a v (memWrite u a v) := by
  unfold Stored
  cases h : place u a with
  | cell k =>
    rw [memWrite_cell v h]
    refine ⟨fun hw => ?_, fun b hb => ?_⟩
    · rw [memRead_cell (k := k) (by rw [place_setMem, h])]
      exact Mem.read_write_same k v hw
    · simp only [memRead, readAt, place_setMem]
      cases hp : place u b with
      | cell k' =>
        have hk : k' ≠ k := fun e => hb (by rw [hp, e])
        exact Mem.read_write_other v hk
      | cart n => exact cartRead_write u.cfg u.cart u.mem n v (place_cell_key h).1
      | boot n => rfl
      | device n => rfl
      | void => rfl
  | cart n => rw [memWrite_cart v (.inl h)]; exact ⟨rfl, memRead_writeCart u n v⟩
  | boot n => rw [memWrite_cart v (.inr h)]; exact ⟨rfl, memRead_writeCart u n v⟩
  | device n => rw [memWrite_device v h]; exact ⟨rfl, rfl⟩
  | void => exact memWrite_void v h

end Sys2Proof.Machine
end

