-- ==== Sys2Proof/Laws/PerInstr.lean ====
section
/-! SUPPORT. The family `RoundTrip`: for each instruction, decoding its encoding, whatever follows, gives it back. -/

namespace Sys2Proof.Laws.RoundTrip

theorem ldBcD16 (nn : Word) : Statement (.ldBcD16 nn) := ofI16 0x01 nn Instr.ldBcD16 rfl rfl (fun _ _ => rfl)
theorem ldBD8 (n : Byte) : Statement (.ldBD8 n) := ofI8 0x06 n rfl rfl rfl
theorem ldAtA16Sp (nn : Word) : Statement (.ldAtA16Sp nn) := ofI16 0x08 nn Instr.ldAtA16Sp rfl rfl (fun _ _ => rfl)
theorem ldCD8 (n : Byte) : Statement (.ldCD8 n) := ofI8 0x0E n rfl rfl rfl
theorem stop (b : Byte) : Statement (.stop b) := ofI8 0x10 b rfl rfl rfl
theorem ldDeD16 (nn : Word) : Statement (.ldDeD16 nn) := ofI16 0x11 nn Instr.ldDeD16 rfl rfl (fun _ _ => rfl)
theorem ldDD8 (n : Byte) : Statement (.ldDD8 n) := ofI8 0x16 n rfl rfl rfl
theorem jrR8 (e : Int) : Statement (.jrR8 e) := ofRel 0x18 e Instr.jrR8 rfl rfl rfl (fun _ => rfl)
theorem ldED8 (n : Byte) : Statement (.ldED8 n) := ofI8 0x1E n rfl rfl rfl
theorem jrNzR8 (e : Int) : Statement (.jrNzR8 e) := ofRel 0x20 e Instr.jrNzR8 rfl rfl rfl (fun _ => rfl)
theorem ldHlD16 (nn : Word) : Statement (.ldHlD16 nn) := ofI16 0x21 nn Instr.ldHlD16 rfl rfl (fun _ _ => rfl)
theorem ldHD8 (n : Byte) : Statement (.ldHD8 n) := ofI8 0x26 n rfl rfl rfl
theorem jrZR8 (e : Int) : Statement (.jrZR8 e) := ofRel 0x28 e Instr.jrZR8 rfl rfl rfl (fun _ => rfl)
theorem ldLD8 (n : Byte) : Statement (.ldLD8 n) := ofI8 0x2E n rfl rfl rfl
theorem jrNcR8 (e : Int) : Statement (.jrNcR8 e) := ofRel 0x30 e Instr.jrNcR8 rfl rfl rfl (fun _ => rfl)
theorem ldSpD16 (nn : Word) : Statement (.ldSpD16 nn) := ofI16 0x31 nn Instr.ldSpD16 rfl rfl (fun _ _ => rfl)
theorem ldAtHlD8 (n : Byte) : Statement (.ldAtHlD8 n) := ofI8 0x36 n rfl rfl rfl
theorem jrCR8 (e : Int) : Statement (.jrCR8 e) := ofRel 0x38 e Instr.jrCR8 rfl rfl rfl (fun _ => rfl)
theorem ldAD8 (n : Byte) : Statement (.ldAD8 n) := ofI8 0x3E n rfl rfl rfl
theorem jpNzA16 (nn : Word) : Statement (.jpNzA16 nn) := ofI16 0xC2 nn Instr.jpNzA16 rfl rfl (fun _ _ => rfl)
theorem jpA16 (nn : Word) : Statement (.jpA16 nn) := ofI16 0xC3 nn Instr.jpA16 rfl rfl (fun _ _ => rfl)
theorem callNzA16 (nn : Word) : Statement (.callNzA16 nn) := ofI16 0xC4 nn Instr.callNzA16 rfl rfl (fun _ _ => rfl)
theorem addD8 (n : Byte) : Statement (.addD8 n) := ofI8 0xC6 n rfl rfl rfl
theorem jpZA16 (nn : Word) : Statement (.jpZA16 nn) := ofI16 0xCA nn Instr.jpZA16 rfl rfl (fun _ _ => rfl)
theorem callZA16 (nn : Word) : Statement (.callZA16 nn) := ofI16 0xCC nn Instr.callZA16 rfl rfl (fun _ _ => rfl)
theorem callA16 (nn : Word) : Statement (.callA16 nn) := ofI16 0xCD nn Instr.callA16 rfl rfl (fun _ _ => rfl)
theorem adcD8 (n : Byte) : Statement (.adcD8 n) := ofI8 0xCE n rfl rfl rfl
theorem jpNcA16 (nn : Word) : Statement (.jpNcA16 nn) := ofI16 0xD2 nn Instr.jpNcA16 rfl rfl (fun _ _ => rfl)
theorem callNcA16 (nn : Word) : Statement (.callNcA16 nn) := ofI16 0xD4 nn Instr.callNcA16 rfl rfl (fun _ _ => rfl)
theorem subD8 (n : Byte) : Statement (.subD8 n) := ofI8 0xD6 n rfl rfl rfl
theorem jpCA16 (nn : Word) : Statement (.jpCA16 nn) := ofI16 0xDA nn Instr.jpCA16 rfl rfl (fun _ _ => rfl)
theorem callCA16 (nn : Word) : Statement (.callCA16 nn) := ofI16 0xDC nn Instr.callCA16 rfl rfl (fun _ _ => rfl)
theorem sbcD8 (n : Byte) : Statement (.sbcD8 n) := ofI8 0xDE n rfl rfl rfl
theorem ldhAtA8A (n : Byte) : Statement (.ldhAtA8A n) := ofI8 0xE0 n rfl rfl rfl
theorem andD8 (n : Byte) : Statement (.andD8 n) := ofI8 0xE6 n rfl rfl rfl
theorem addSpR8 (e : Int) : Statement (.addSpR8 e) := ofRel 0xE8 e Instr.addSpR8 rfl rfl rfl (fun _ => rfl)
theorem ldAtA16A (nn : Word) : Statement (.ldAtA16A nn) := ofI16 0xEA nn Instr.ldAtA16A rfl rfl (fun _ _ => rfl)
theorem xorD8 (n : Byte) : Statement (.xorD8 n) := ofI8 0xEE n rfl rfl rfl
theorem ldhAAtA8 (n : Byte) : Statement (.ldhAAtA8 n) := ofI8 0xF0 n rfl rfl rfl
theorem orD8 (n : Byte) : Statement (.orD8 n) := ofI8 0xF6 n rfl rfl rfl
theorem ldHlSpR8 (e : Int) : Statement (.ldHlSpR8 e) := ofRel 0xF8 e Instr.ldHlSpR8 rfl rfl rfl (fun _ => rfl)
theorem ldAAtA16 (nn : Word) : Statement (.ldAAtA16 nn) := ofI16 0xFA nn Instr.ldAAtA16 rfl rfl (fun _ _ => rfl)
theorem cpD8 (n : Byte) : Statement (.cpD8 n) := ofI8 0xFE n rfl rfl rfl
theorem nop : Statement .nop := of0 0x00 rfl rfl rfl
theorem ldAtBcA : Statement .ldAtBcA := of0 0x02 rfl rfl rfl
theorem incBc : Statement .incBc := of0 0x03 rfl rfl rfl
theorem incB : Statement .incB := of0 0x04 rfl rfl rfl
theorem decB : Statement .decB := of0 0x05 rfl rfl rfl
theorem rlca : Statement .rlca := of0 0x07 rfl rfl rfl
theorem addHlBc : Statement .addHlBc := of0 0x09 rfl rfl rfl
theorem ldAAtBc : Statement .ldAAtBc := of0 0x0A rfl rfl rfl
theorem decBc : Statement .decBc := of0 0x0B rfl rfl rfl
theorem incC : Statement .incC := of0 0x0C rfl rfl rfl
theorem decC : Statement .decC := of0 0x0D rfl rfl rfl
theorem rrca : Statement .rrca := of0 0x0F rfl rfl rfl
theorem ldAtDeA : Statement .ldAtDeA := of0 0x12 rfl rfl rfl
theorem incDe : Statement .incDe := of0 0x13 rfl rfl rfl
theorem incD : Statement .incD := of0 0x14 rfl rfl rfl
theorem decD : Statement .decD := of0 0x15 rfl rfl rfl
theorem rla : Statement .rla := of0 0x17 rfl rfl rfl
theorem addHlDe : Statement .addHlDe := of0 0x19 rfl rfl rfl
theorem ldAAtDe : Statement .ldAAtDe := of0 0x1A rfl rfl rfl
theorem decDe : Statement .decDe := of0 0x1B rfl rfl rfl
theorem incE : Statement .incE := of0 0x1C rfl rfl rfl
theorem decE : Statement .decE := of0 0x1D rfl rfl rfl
theorem rra : Statement .rra := of0 0x1F rfl rfl rfl
theorem ldAtHlIncA : Statement .ldAtHlIncA := of0 0x22 rfl rfl rfl
theorem incHl : Statement .incHl := of0 0x23 rfl rfl rfl
theorem incH : Statement .incH := of0 0x24 rfl rfl rfl
theorem decH : Statement .decH := of0 0x25 rfl rfl rfl
theorem daa : Statement .daa := of0 0x27 rfl rfl rfl
theorem addHlHl : Statement .addHlHl := of0 0x29 rfl rfl rfl
theorem ldAAtHlInc : Statement .ldAAtHlInc := of0 0x2A rfl rfl rfl
theorem decHl : Statement .decHl := of0 0x2B rfl rfl rfl
theorem incL : Statement .incL := of0 0x2C rfl rfl rfl
theorem decL : Statement .decL := of0 0x2D rfl rfl rfl
theorem cpl : Statement .cpl := of0 0x2F rfl rfl rfl
theorem ldAtHlDecA : Statement .ldAtHlDecA := of0 0x32 rfl rfl rfl
theorem incSp : Statement .incSp := of0 0x33 rfl rfl rfl
theorem incAtHl : Statement .incAtHl := of0 0x34 rfl rfl rfl
theorem decAtHl : Statement .decAtHl := of0 0x35 rfl rfl rfl
theorem scf : Statement .scf := of0 0x37 rfl rfl rfl
theorem addHlSp : Statement .addHlSp := of0 0x39 rfl rfl rfl
theorem ldAAtHlDec : Statement .ldAAtHlDec := of0 0x3A rfl rfl rfl
theorem decSp : Statement .decSp := of0 0x3B rfl rfl rfl
theorem incA : Statement .incA := of0 0x3C rfl rfl rfl
theorem decA : Statement .decA := of0 0x3D rfl rfl rfl
theorem ccf : Statement .ccf := of0 0x3F rfl rfl rfl
theorem ldBB : Statement .ldBB := of0 0x40 rfl rfl rfl
theorem ldBC : Statement .ldBC := of0 0x41 rfl rfl rfl
theorem ldBD : Statement .ldBD := of0 0x42 rfl rfl rfl
theorem ldBE : Statement .ldBE := of0 0x43 rfl rfl rfl
theorem ldBH : Statement .ldBH := of0 0x44 rfl rfl rfl
theorem ldBL : Statement .ldBL := of0 0x45 rfl rfl rfl
theorem ldBAtHl : Statement .ldBAtHl := of0 0x46 rfl rfl rfl
theorem ldBA : Statement .ldBA := of0 0x47 rfl rfl rfl
theorem ldCB : Statement .ldCB := of0 0x48 rfl rfl rfl
theorem ldCC : Statement .ldCC := of0 0x49 rfl rfl rfl
theorem ldCD : Statement .ldCD := of0 0x4A rfl rfl rfl
theorem ldCE : Statement .ldCE := of0 0x4B rfl rfl rfl
theorem ldCH : Statement .ldCH := of0 0x4C rfl rfl rfl
theorem ldCL : Statement .ldCL := of0 0x4D rfl rfl rfl
theorem ldCAtHl : Statement .ldCAtHl := of0 0x4E rfl rfl rfl
theorem ldCA : Statement .ldCA := of0 0x4F rfl rfl rfl
theorem ldDB : Statement .ldDB := of0 0x50 rfl rfl rfl
theorem ldDC : Statement .ldDC := of0 0x51 rfl rfl rfl
theorem ldDD : Statement .ldDD := of0 0x52 rfl rfl rfl
theorem ldDE : Statement .ldDE := of0 0x53 rfl rfl rfl
theorem ldDH : Statement .ldDH := of0 0x54 rfl rfl rfl
theorem ldDL : Statement .ldDL := of0 0x55 rfl rfl rfl
theorem ldDAtHl : Statement .ldDAtHl := of0 0x56 rfl rfl rfl
theorem ldDA : Statement .ldDA := of0 0x57 rfl rfl rfl
theorem ldEB : Statement .ldEB := of0 0x58 rfl rfl rfl
theorem ldEC : Statement .ldEC := of0 0x59 rfl rfl rfl
theorem ldED : Statement .ldED := of0 0x5A rfl rfl rfl
theorem ldEE : Statement .ldEE := of0 0x5B rfl rfl rfl
theorem ldEH : Statement .ldEH := of0 0x5C rfl rfl rfl
theorem ldEL : Statement .ldEL := of0 0x5D rfl rfl rfl
theorem ldEAtHl : Statement .ldEAtHl := of0 0x5E rfl rfl rfl
theorem ldEA : Statement .ldEA := of0 0x5F rfl rfl rfl
theorem ldHB : Statement .ldHB := of0 0x60 rfl rfl rfl
theorem ldHC : Statement .ldHC := of0 0x61 rfl rfl rfl
theorem ldHD : Statement .ldHD := of0 0x62 rfl rfl rfl
theorem ldHE : Statement .ldHE := of0 0x63 rfl rfl rfl
theorem ldHH : Statement .ldHH := of0 0x64 rfl rfl rfl
theorem ldHL : Statement .ldHL := of0 0x65 rfl rfl rfl
theorem ldHAtHl : Statement .ldHAtHl := of0 0x66 rfl rfl rfl
theorem ldHA : Statement .ldHA := of0 0x67 rfl rfl rfl
theorem ldLB : Statement .ldLB := of0 0x68 rfl rfl rfl
theorem ldLC : Statement .ldLC := of0 0x69 rfl rfl rfl
theorem ldLD : Statement .ldLD := of0 0x6A rfl rfl rfl
theorem ldLE : Statement .ldLE := of0 0x6B rfl rfl rfl
theorem ldLH : Statement .ldLH := of0 0x6C rfl rfl rfl
theorem ldLL : Statement .ldLL := of0 0x6D rfl rfl rfl
theorem ldLAtHl : Statement .ldLAtHl := of0 0x6E rfl rfl rfl
theorem ldLA : Statement .ldLA := of0 0x6F rfl rfl rfl
theorem ldAtHlB : Statement .ldAtHlB := of0 0x70 rfl rfl rfl
theorem ldAtHlC : Statement .ldAtHlC := of0 0x71 rfl rfl rfl
theorem ldAtHlD : Statement .ldAtHlD := of0 0x72 rfl rfl rfl
theorem ldAtHlE : Statement .ldAtHlE := of0 0x73 rfl rfl rfl
theorem ldAtHlH : Statement .ldAtHlH := of0 0x74 rfl rfl rfl
theorem ldAtHlL : Statement .ldAtHlL := of0 0x75 rfl rfl rfl
theorem halt : Statement .halt := of0 0x76 rfl rfl rfl
theorem ldAtHlA : Statement .ldAtHlA := of0 0x77 rfl rfl rfl
theorem ldAB : Statement .ldAB := of0 0x78 rfl rfl rfl
theorem ldAC : Statement .ldAC := of0 0x79 rfl rfl rfl
theorem ldAD : Statement .ldAD := of0 0x7A rfl rfl rfl
theorem ldAE : Statement .ldAE := of0 0x7B rfl rfl rfl
theorem ldAH : Statement .ldAH := of0 0x7C rfl rfl rfl
theorem ldAL : Statement .ldAL := of0 0x7D rfl rfl rfl
theorem ldAAtHl : Statement .ldAAtHl := of0 0x7E rfl rfl rfl
theorem ldAA : Statement .ldAA := of0 0x7F rfl rfl rfl
theorem addB : Statement .addB := of0 0x80 rfl rfl rfl
theorem addC : Statement .addC := of0 0x81 rfl rfl rfl
theorem addD : Statement .addD := of0 0x82 rfl rfl rfl
theorem addE : Statement .addE := of0 0x83 rfl rfl rfl
theorem addH : Statement .addH := of0 0x84 rfl rfl rfl
theorem addL : Statement .addL := of0 0x85 rfl rfl rfl
theorem addAtHl : Statement .addAtHl := of0 0x86 rfl rfl rfl
theorem addA : Statement .addA := of0 0x87 rfl rfl rfl
theorem adcB : Statement .adcB := of0 0x88 rfl rfl rfl
theorem adcC : Statement .adcC := of0 0x89 rfl rfl rfl
theorem adcD : Statement .adcD := of0 0x8A rfl rfl rfl
theorem adcE : Statement .adcE := of0 0x8B rfl rfl rfl
theorem adcH : Statement .adcH := of0 0x8C rfl rfl rfl
theorem adcL : Statement .adcL := of0 0x8D rfl rfl rfl
theorem adcAtHl : Statement .adcAtHl := of0 0x8E rfl rfl rfl
theorem adcA : Statement .adcA := of0 0x8F rfl rfl rfl
theorem subB : Statement .subB := of0 0x90 rfl rfl rfl
theorem subC : Statement .subC := of0 0x91 rfl rfl rfl
theorem subD : Statement .subD := of0 0x92 rfl rfl rfl
theorem subE : Statement .subE := of0 0x93 rfl rfl rfl
theorem subH : Statement .subH := of0 0x94 rfl rfl rfl
theorem subL : Statement .subL := of0 0x95 rfl rfl rfl
theorem subAtHl : Statement .subAtHl := of0 0x96 rfl rfl rfl
theorem subA : Statement .subA := of0 0x97 rfl rfl rfl
theorem sbcB : Statement .sbcB := of0 0x98 rfl rfl rfl
theorem sbcC : Statement .sbcC := of0 0x99 rfl rfl rfl
theorem sbcD : Statement .sbcD := of0 0x9A rfl rfl rfl
theorem sbcE : Statement .sbcE := of0 0x9B rfl rfl rfl
theorem sbcH : Statement .sbcH := of0 0x9C rfl rfl rfl
theorem sbcL : Statement .sbcL := of0 0x9D rfl rfl rfl
theorem sbcAtHl : Statement .sbcAtHl := of0 0x9E rfl rfl rfl
theorem sbcA : Statement .sbcA := of0 0x9F rfl rfl rfl
theorem andB : Statement .andB := of0 0xA0 rfl rfl rfl
theorem andC : Statement .andC := of0 0xA1 rfl rfl rfl
theorem andD : Statement .andD := of0 0xA2 rfl rfl rfl
theorem andE : Statement .andE := of0 0xA3 rfl rfl rfl
theorem andH : Statement .andH := of0 0xA4 rfl rfl rfl
theorem andL : Statement .andL := of0 0xA5 rfl rfl rfl
theorem andAtHl : Statement .andAtHl := of0 0xA6 rfl rfl rfl
theorem andA : Statement .andA := of0 0xA7 rfl rfl rfl
theorem xorB : Statement .xorB := of0 0xA8 rfl rfl rfl
theorem xorC : Statement .xorC := of0 0xA9 rfl rfl rfl
theorem xorD : Statement .xorD := of0 0xAA rfl rfl rfl
theorem xorE : Statement .xorE := of0 0xAB rfl rfl rfl
theorem xorH : Statement .xorH := of0 0xAC rfl rfl rfl
theorem xorL : Statement .xorL := of0 0xAD rfl rfl rfl
theorem xorAtHl : Statement .xorAtHl := of0 0xAE rfl rfl rfl
theorem xorA : Statement .xorA := of0 0xAF rfl rfl rfl
theorem orB : Statement .orB := of0 0xB0 rfl rfl rfl
theorem orC : Statement .orC := of0 0xB1 rfl rfl rfl
theorem orD : Statement .orD := of0 0xB2 rfl rfl rfl
theorem orE : Statement .orE := of0 0xB3 rfl rfl rfl
theorem orH : Statement .orH := of0 0xB4 rfl rfl rfl
theorem orL : Statement .orL := of0 0xB5 rfl rfl rfl
theorem orAtHl : Statement .orAtHl := of0 0xB6 rfl rfl rfl
theorem orA : Statement .orA := of0 0xB7 rfl rfl rfl
theorem cpB : Statement .cpB := of0 0xB8 rfl rfl rfl
theorem cpC : Statement .cpC := of0 0xB9 rfl rfl rfl
theorem cpD : Statement .cpD := of0 0xBA rfl rfl rfl
theorem cpE : Statement .cpE := of0 0xBB rfl rfl rfl
theorem cpH : Statement .cpH := of0 0xBC rfl rfl rfl
theorem cpL : Statement .cpL := of0 0xBD rfl rfl rfl
theorem cpAtHl : Statement .cpAtHl := of0 0xBE rfl rfl rfl
theorem cpA : Statement .cpA := of0 0xBF rfl rfl rfl
theorem retNz : Statement .retNz := of0 0xC0 rfl rfl rfl
theorem popBc : Statement .popBc := of0 0xC1 rfl rfl rfl
theorem pushBc : Statement .pushBc := of0 0xC5 rfl rfl rfl
theorem rst00 : Statement .rst00 := of0 0xC7 rfl rfl rfl
theorem retZ : Statement .retZ := of0 0xC8 rfl rfl rfl
theorem ret : Statement .ret := of0 0xC9 rfl rfl rfl
theorem rst08 : Statement .rst08 := of0 0xCF rfl rfl rfl
theorem retNc : Statement .retNc := of0 0xD0 rfl rfl rfl
theorem popDe : Statement .popDe := of0 0xD1 rfl rfl rfl
theorem illegalD3 : Statement .illegalD3 := of0 0xD3 rfl rfl rfl
theorem pushDe : Statement .pushDe := of0 0xD5 rfl rfl rfl
theorem rst10 : Statement .rst10 := of0 0xD7 rfl rfl rfl
theorem retC : Statement .retC := of0 0xD8 rfl rfl rfl
theorem reti : Statement .reti := of0 0xD9 rfl rfl rfl
theorem illegalDB : Statement .illegalDB := of0 0xDB rfl rfl rfl
theorem illegalDD : Statement .illegalDD := of0 0xDD rfl rfl rfl
theorem rst18 : Statement .rst18 := of0 0xDF rfl rfl rfl
theorem popHl : Statement .popHl := of0 0xE1 rfl rfl rfl
theorem ldAtCA : Statement .ldAtCA := of0 0xE2 rfl rfl rfl
theorem illegalE3 : Statement .illegalE3 := of0 0xE3 rfl rfl rfl
theorem illegalE4 : Statement .illegalE4 := of0 0xE4 rfl rfl rfl
theorem pushHl : Statement .pushHl := of0 0xE5 rfl rfl rfl
theorem rst20 : Statement .rst20 := of0 0xE7 rfl rfl rfl
theorem jpAtHl : Statement .jpAtHl := of0 0xE9 rfl rfl rfl
theorem illegalEB : Statement .illegalEB := of0 0xEB rfl rfl rfl
theorem illegalEC : Statement .illegalEC := of0 0xEC rfl rfl rfl
theorem illegalED : Statement .illegalED := of0 0xED rfl rfl rfl
theorem rst28 : Statement .rst28 := of0 0xEF rfl rfl rfl
theorem popAf : Statement .popAf := of0 0xF1 rfl rfl rfl
theorem ldAAtC : Statement .ldAAtC := of0 0xF2 rfl rfl rfl
theorem di : Statement .di := of0 0xF3 rfl rfl rfl
theorem illegalF4 : Statement .illegalF4 := of0 0xF4 rfl rfl rfl
theorem pushAf : Statement .pushAf := of0 0xF5 rfl rfl rfl
theorem rst30 : Statement .rst30 := of0 0xF7 rfl rfl rfl
theorem ldSpHl : Statement .ldSpHl := of0 0xF9 rfl rfl rfl
theorem ei : Statement .ei := of0 0xFB rfl rfl rfl
theorem illegalFC : Statement .illegalFC := of0 0xFC rfl rfl rfl
theorem illegalFD : Statement .illegalFD := of0 0xFD rfl rfl rfl
theorem rst38 : Statement .rst38 := of0 0xFF rfl rfl rfl
theorem rlcB : Statement .rlcB := ofCb 0x00 rfl rfl
theorem rlcC : Statement .rlcC := ofCb 0x01 rfl rfl
theorem rlcD : Statement .rlcD := ofCb 0x02 rfl rfl
theorem rlcE : Statement .rlcE := ofCb 0x03 rfl rfl
theorem rlcH : Statement .rlcH := ofCb 0x04 rfl rfl
theorem rlcL : Statement .rlcL := ofCb 0x05 rfl rfl
theorem rlcAtHl : Statement .rlcAtHl := ofCb 0x06 rfl rfl
theorem rlcA : Statement .rlcA := ofCb 0x07 rfl rfl
theorem rrcB : Statement .rrcB := ofCb 0x08 rfl rfl
theorem rrcC : Statement .rrcC := ofCb 0x09 rfl rfl
theorem rrcD : Statement .rrcD := ofCb 0x0A rfl rfl
theorem rrcE : Statement .rrcE := ofCb 0x0B rfl rfl
theorem rrcH : Statement .rrcH := ofCb 0x0C rfl rfl
theorem rrcL : Statement .rrcL := ofCb 0x0D rfl rfl
theorem rrcAtHl : Statement .rrcAtHl := ofCb 0x0E rfl rfl
theorem rrcA : Statement .rrcA := ofCb 0x0F rfl rfl
theorem rlB : Statement .rlB := ofCb 0x10 rfl rfl
theorem rlC : Statement .rlC := ofCb 0x11 rfl rfl
theorem rlD : Statement .rlD := ofCb 0x12 rfl rfl
theorem rlE : Statement .rlE := ofCb 0x13 rfl rfl
theorem rlH : Statement .rlH := ofCb 0x14 rfl rfl
theorem rlL : Statement .rlL := ofCb 0x15 rfl rfl
theorem rlAtHl : Statement .rlAtHl := ofCb 0x16 rfl rfl
theorem rlA : Statement .rlA := ofCb 0x17 rfl rfl
theorem rrB : Statement .rrB := ofCb 0x18 rfl rfl
theorem rrC : Statement .rrC := ofCb 0x19 rfl rfl
theorem rrD : Statement .rrD := ofCb 0x1A rfl rfl
theorem rrE : Statement .rrE := ofCb 0x1B rfl rfl
theorem rrH : Statement .rrH := ofCb 0x1C rfl rfl
theorem rrL : Statement .rrL := ofCb 0x1D rfl rfl
theorem rrAtHl : Statement .rrAtHl := ofCb 0x1E rfl rfl
theorem rrA : Statement .rrA := ofCb 0x1F rfl rfl
theorem slaB : Statement .slaB := ofCb 0x20 rfl rfl
theorem slaC : Statement .slaC := ofCb 0x21 rfl rfl
theorem slaD : Statement .slaD := ofCb 0x22 rfl rfl
theorem slaE : Statement .slaE := ofCb 0x23 rfl rfl
theorem slaH : Statement .slaH := ofCb 0x24 rfl rfl
theorem slaL : Statement .slaL := ofCb 0x25 rfl rfl
theorem slaAtHl : Statement .slaAtHl := ofCb 0x26 rfl rfl
theorem slaA : Statement .slaA := ofCb 0x27 rfl rfl
theorem sraB : Statement .sraB := ofCb 0x28 rfl rfl
theorem sraC : Statement .sraC := ofCb 0x29 rfl rfl
theorem sraD : Statement .sraD := ofCb 0x2A rfl rfl
theorem sraE : Statement .sraE := ofCb 0x2B rfl rfl
theorem sraH : Statement .sraH := ofCb 0x2C rfl rfl
theorem sraL : Statement .sraL := ofCb 0x2D rfl rfl
theorem sraAtHl : Statement .sraAtHl := ofCb 0x2E rfl rfl
theorem sraA : Statement .sraA := ofCb 0x2F rfl rfl
theorem swapB : Statement .swapB := ofCb 0x30 rfl rfl
theorem swapC : Statement .swapC := ofCb 0x31 rfl rfl
theorem swapD : Statement .swapD := ofCb 0x32 rfl rfl
theorem swapE : Statement .swapE := ofCb 0x33 rfl rfl
theorem swapH : Statement .swapH := ofCb 0x34 rfl rfl
theorem swapL : Statement .swapL := ofCb 0x35 rfl rfl
theorem swapAtHl : Statement .swapAtHl := ofCb 0x36 rfl rfl
theorem swapA : Statement .swapA := ofCb 0x37 rfl rfl
theorem srlB : Statement .srlB := ofCb 0x38 rfl rfl
theorem srlC : Statement .srlC := ofCb 0x39 rfl rfl
theorem srlD : Statement .srlD := ofCb 0x3A rfl rfl
theorem srlE : Statement .srlE := ofCb 0x3B rfl rfl
theorem srlH : Statement .srlH := ofCb 0x3C rfl rfl
theorem srlL : Statement .srlL := ofCb 0x3D rfl rfl
theorem srlAtHl : Statement .srlAtHl := ofCb 0x3E rfl rfl
theorem srlA : Statement .srlA := ofCb 0x3F rfl rfl
theorem bit0B : Statement .bit0B := ofCb 0x40 rfl rfl
theorem bit0C : Statement .bit0C := ofCb 0x41 rfl rfl
theorem bit0D : Statement .bit0D := ofCb 0x42 rfl rfl
theorem bit0E : Statement .bit0E := ofCb 0x43 rfl rfl
theorem bit0H : Statement .bit0H := ofCb 0x44 rfl rfl
theorem bit0L : Statement .bit0L := ofCb 0x45 rfl rfl
theorem bit0AtHl : Statement .bit0AtHl := ofCb 0x46 rfl rfl
theorem bit0A : Statement .bit0A := ofCb 0x47 rfl rfl
theorem bit1B : Statement .bit1B := ofCb 0x48 rfl rfl
theorem bit1C : Statement .bit1C := ofCb 0x49 rfl rfl
theorem bit1D : Statement .bit1D := ofCb 0x4A rfl rfl
theorem bit1E : Statement .bit1E := ofCb 0x4B rfl rfl
theorem bit1H : Statement .bit1H := ofCb 0x4C rfl rfl
theorem bit1L : Statement .bit1L := ofCb 0x4D rfl rfl
theorem bit1AtHl : Statement .bit1AtHl := ofCb 0x4E rfl rfl
theorem bit1A : Statement .bit1A := ofCb 0x4F rfl rfl
theorem bit2B : Statement .bit2B := ofCb 0x50 rfl rfl
theorem bit2C : Statement .bit2C := ofCb 0x51 rfl rfl
theorem bit2D : Statement .bit2D := ofCb 0x52 rfl rfl
theorem bit2E : Statement .bit2E := ofCb 0x53 rfl rfl
theorem bit2H : Statement .bit2H := ofCb 0x54 rfl rfl
theorem bit2L : Statement .bit2L := ofCb 0x55 rfl rfl
theorem bit2AtHl : Statement .bit2AtHl := ofCb 0x56 rfl rfl
theorem bit2A : Statement .bit2A := ofCb 0x57 rfl rfl
theorem bit3B : Statement .bit3B := ofCb 0x58 rfl rfl
theorem bit3C : Statement .bit3C := ofCb 0x59 rfl rfl
theorem bit3D : Statement .bit3D := ofCb 0x5A rfl rfl
theorem bit3E : Statement .bit3E := ofCb 0x5B rfl rfl
theorem bit3H : Statement .bit3H := ofCb 0x5C rfl rfl
theorem bit3L : Statement .bit3L := ofCb 0x5D rfl rfl
theorem bit3AtHl : Statement .bit3AtHl := ofCb 0x5E rfl rfl
theorem bit3A : Statement .bit3A := ofCb 0x5F rfl rfl
theorem bit4B : Statement .bit4B := ofCb 0x60 rfl rfl
theorem bit4C : Statement .bit4C := ofCb 0x61 rfl rfl
theorem bit4D : Statement .bit4D := ofCb 0x62 rfl rfl
theorem bit4E : Statement .bit4E := ofCb 0x63 rfl rfl
theorem bit4H : Statement .bit4H := ofCb 0x64 rfl rfl
theorem bit4L : Statement .bit4L := ofCb 0x65 rfl rfl
theorem bit4AtHl : Statement .bit4AtHl := ofCb 0x66 rfl rfl
theorem bit4A : Statement .bit4A := ofCb 0x67 rfl rfl
theorem bit5B : Statement .bit5B := ofCb 0x68 rfl rfl
theorem bit5C : Statement .bit5C := ofCb 0x69 rfl rfl
theorem bit5D : Statement .bit5D := ofCb 0x6A rfl rfl
theorem bit5E : Statement .bit5E := ofCb 0x6B rfl rfl
theorem bit5H : Statement .bit5H := ofCb 0x6C rfl rfl
theorem bit5L : Statement .bit5L := ofCb 0x6D rfl rfl
theorem bit5AtHl : Statement .bit5AtHl := ofCb 0x6E rfl rfl
theorem bit5A : Statement .bit5A := ofCb 0x6F rfl rfl
theorem bit6B : Statement .bit6B := ofCb 0x70 rfl rfl
theorem bit6C : Statement .bit6C := ofCb 0x71 rfl rfl
theorem bit6D : Statement .bit6D := ofCb 0x72 rfl rfl
theorem bit6E : Statement .bit6E := ofCb 0x73 rfl rfl
theorem bit6H : Statement .bit6H := ofCb 0x74 rfl rfl
theorem bit6L : Statement .bit6L := ofCb 0x75 rfl rfl
theorem bit6AtHl : Statement .bit6AtHl := ofCb 0x76 rfl rfl
theorem bit6A : Statement .bit6A := ofCb 0x77 rfl rfl
theorem bit7B : Statement .bit7B := ofCb 0x78 rfl rfl
theorem bit7C : Statement .bit7C := ofCb 0x79 rfl rfl
theorem bit7D : Statement .bit7D := ofCb 0x7A rfl rfl
theorem bit7E : Statement .bit7E := ofCb 0x7B rfl rfl
theorem bit7H : Statement .bit7H := ofCb 0x7C rfl rfl
theorem bit7L : Statement .bit7L := ofCb 0x7D rfl rfl
theorem bit7AtHl : Statement .bit7AtHl := ofCb 0x7E rfl rfl
theorem bit7A : Statement .bit7A := ofCb 0x7F rfl rfl
theorem res0B : Statement .res0B := ofCb 0x80 rfl rfl
theorem res0C : Statement .res0C := ofCb 0x81 rfl rfl
theorem res0D : Statement .res0D := ofCb 0x82 rfl rfl
theorem res0E : Statement .res0E := ofCb 0x83 rfl rfl
theorem res0H : Statement .res0H := ofCb 0x84 rfl rfl
theorem res0L : Statement .res0L := ofCb 0x85 rfl rfl
theorem res0AtHl : Statement .res0AtHl := ofCb 0x86 rfl rfl
theorem res0A : Statement .res0A := ofCb 0x87 rfl rfl
theorem res1B : Statement .res1B := ofCb 0x88 rfl rfl
theorem res1C : Statement .res1C := ofCb 0x89 rfl rfl
theorem res1D : Statement .res1D := ofCb 0x8A rfl rfl
theorem res1E : Statement .res1E := ofCb 0x8B rfl rfl
theorem res1H : Statement .res1H := ofCb 0x8C rfl rfl
theorem res1L : Statement .res1L := ofCb 0x8D rfl rfl
theorem res1AtHl : Statement .res1AtHl := ofCb 0x8E rfl rfl
theorem res1A : Statement .res1A := ofCb 0x8F rfl rfl
theorem res2B : Statement .res2B := ofCb 0x90 rfl rfl
theorem res2C : Statement .res2C := ofCb 0x91 rfl rfl
theorem res2D : Statement .res2D := ofCb 0x92 rfl rfl
theorem res2E : Statement .res2E := ofCb 0x93 rfl rfl
theorem res2H : Statement .res2H := ofCb 0x94 rfl rfl
theorem res2L : Statement .res2L := ofCb 0x95 rfl rfl
theorem res2AtHl : Statement .res2AtHl := ofCb 0x96 rfl rfl
theorem res2A : Statement .res2A := ofCb 0x97 rfl rfl
theorem res3B : Statement .res3B := ofCb 0x98 rfl rfl
theorem res3C : Statement .res3C := ofCb 0x99 rfl rfl
theorem res3D : Statement .res3D := ofCb 0x9A rfl rfl
theorem res3E : Statement .res3E := ofCb 0x9B rfl rfl
theorem res3H : Statement .res3H := ofCb 0x9C rfl rfl
theorem res3L : Statement .res3L := ofCb 0x9D rfl rfl
theorem res3AtHl : Statement .res3AtHl := ofCb 0x9E rfl rfl
theorem res3A : Statement .res3A := ofCb 0x9F rfl rfl
theorem res4B : Statement .res4B := ofCb 0xA0 rfl rfl
theorem res4C : Statement .res4C := ofCb 0xA1 rfl rfl
theorem res4D : Statement .res4D := ofCb 0xA2 rfl rfl
theorem res4E : Statement .res4E := ofCb 0xA3 rfl rfl
theorem res4H : Statement .res4H := ofCb 0xA4 rfl rfl
theorem res4L : Statement .res4L := ofCb 0xA5 rfl rfl
theorem res4AtHl : Statement .res4AtHl := ofCb 0xA6 rfl rfl
theorem res4A : Statement .res4A := ofCb 0xA7 rfl rfl
theorem res5B : Statement .res5B := ofCb 0xA8 rfl rfl
theorem res5C : Statement .res5C := ofCb 0xA9 rfl rfl
theorem res5D : Statement .res5D := ofCb 0xAA rfl rfl
theorem res5E : Statement .res5E := ofCb 0xAB rfl rfl
theorem res5H : Statement .res5H := ofCb 0xAC rfl rfl
theorem res5L : Statement .res5L := ofCb 0xAD rfl rfl
theorem res5AtHl : Statement .res5AtHl := ofCb 0xAE rfl rfl
theorem res5A : Statement .res5A := ofCb 0xAF rfl rfl
theorem res6B : Statement .res6B := ofCb 0xB0 rfl rfl
theorem res6C : Statement .res6C := ofCb 0xB1 rfl rfl
theorem res6D : Statement .res6D := ofCb 0xB2 rfl rfl
theorem res6E : Statement .res6E := ofCb 0xB3 rfl rfl
theorem res6H : Statement .res6H := ofCb 0xB4 rfl rfl
theorem res6L : Statement .res6L := ofCb 0xB5 rfl rfl
theorem res6AtHl : Statement .res6AtHl := ofCb 0xB6 rfl rfl
theorem res6A : Statement .res6A := ofCb 0xB7 rfl rfl
theorem res7B : Statement .res7B := ofCb 0xB8 rfl rfl
theorem res7C : Statement .res7C := ofCb 0xB9 rfl rfl
theorem res7D : Statement .res7D := ofCb 0xBA rfl rfl
theorem res7E : Statement .res7E := ofCb 0xBB rfl rfl
theorem res7H : Statement .res7H := ofCb 0xBC rfl rfl
theorem res7L : Statement .res7L := ofCb 0xBD rfl rfl
theorem res7AtHl : Statement .res7AtHl := ofCb 0xBE rfl rfl
theorem res7A : Statement .res7A := ofCb 0xBF rfl rfl
theorem set0B : Statement .set0B := ofCb 0xC0 rfl rfl
theorem set0C : Statement .set0C := ofCb 0xC1 rfl rfl
theorem set0D : Statement .set0D := ofCb 0xC2 rfl rfl
theorem set0E : Statement .set0E := ofCb 0xC3 rfl rfl
theorem set0H : Statement .set0H := ofCb 0xC4 rfl rfl
theorem set0L : Statement .set0L := ofCb 0xC5 rfl rfl
theorem set0AtHl : Statement .set0AtHl := ofCb 0xC6 rfl rfl
theorem set0A : Statement .set0A := ofCb 0xC7 rfl rfl
theorem set1B : Statement .set1B := ofCb 0xC8 rfl rfl
theorem set1C : Statement .set1C := ofCb 0xC9 rfl rfl
theorem set1D : Statement .set1D := ofCb 0xCA rfl rfl
theorem set1E : Statement .set1E := ofCb 0xCB rfl rfl
theorem set1H : Statement .set1H := ofCb 0xCC rfl rfl
theorem set1L : Statement .set1L := ofCb 0xCD rfl rfl
theorem set1AtHl : Statement .set1AtHl := ofCb 0xCE rfl rfl
theorem set1A : Statement .set1A := ofCb 0xCF rfl rfl
theorem set2B : Statement .set2B := ofCb 0xD0 rfl rfl
theorem set2C : Statement .set2C := ofCb 0xD1 rfl rfl
theorem set2D : Statement .set2D := ofCb 0xD2 rfl rfl
theorem set2E : Statement .set2E := ofCb 0xD3 rfl rfl
theorem set2H : Statement .set2H := ofCb 0xD4 rfl rfl
theorem set2L : Statement .set2L := ofCb 0xD5 rfl rfl
theorem set2AtHl : Statement .set2AtHl := ofCb 0xD6 rfl rfl
theorem set2A : Statement .set2A := ofCb 0xD7 rfl rfl
theorem set3B : Statement .set3B := ofCb 0xD8 rfl rfl
theorem set3C : Statement .set3C := ofCb 0xD9 rfl rfl
theorem set3D : Statement .set3D := ofCb 0xDA rfl rfl
theorem set3E : Statement .set3E := ofCb 0xDB rfl rfl
theorem set3H : Statement .set3H := ofCb 0xDC rfl rfl
theorem set3L : Statement .set3L := ofCb 0xDD rfl rfl
theorem set3AtHl : Statement .set3AtHl := ofCb 0xDE rfl rfl
theorem set3A : Statement .set3A := ofCb 0xDF rfl rfl
theorem set4B : Statement .set4B := ofCb 0xE0 rfl rfl
theorem set4C : Statement .set4C := ofCb 0xE1 rfl rfl
theorem set4D : Statement .set4D := ofCb 0xE2 rfl rfl
theorem set4E : Statement .set4E := ofCb 0xE3 rfl rfl
theorem set4H : Statement .set4H := ofCb 0xE4 rfl rfl
theorem set4L : Statement .set4L := ofCb 0xE5 rfl rfl
theorem set4AtHl : Statement .set4AtHl := ofCb 0xE6 rfl rfl
theorem set4A : Statement .set4A := ofCb 0xE7 rfl rfl
theorem set5B : Statement .set5B := ofCb 0xE8 rfl rfl
theorem set5C : Statement .set5C := ofCb 0xE9 rfl rfl
theorem set5D : Statement .set5D := ofCb 0xEA rfl rfl
theorem set5E : Statement .set5E := ofCb 0xEB rfl rfl
theorem set5H : Statement .set5H := ofCb 0xEC rfl rfl
theorem set5L : Statement .set5L := ofCb 0xED rfl rfl
theorem set5AtHl : Statement .set5AtHl := ofCb 0xEE rfl rfl
theorem set5A : Statement .set5A := ofCb 0xEF rfl rfl
theorem set6B : Statement .set6B := ofCb 0xF0 rfl rfl
theorem set6C : Statement .set6C := ofCb 0xF1 rfl rfl
theorem set6D : Statement .set6D := ofCb 0xF2 rfl rfl
theorem set6E : Statement .set6E := ofCb 0xF3 rfl rfl
theorem set6H : Statement .set6H := ofCb 0xF4 rfl rfl
theorem set6L : Statement .set6L := ofCb 0xF5 rfl rfl
theorem set6AtHl : Statement .set6AtHl := ofCb 0xF6 rfl rfl
theorem set6A : Statement .set6A := ofCb 0xF7 rfl rfl
theorem set7B : Statement .set7B := ofCb 0xF8 rfl rfl
theorem set7C : Statement .set7C := ofCb 0xF9 rfl rfl
theorem set7D : Statement .set7D := ofCb 0xFA rfl rfl
theorem set7E : Statement .set7E := ofCb 0xFB rfl rfl
theorem set7H : Statement .set7H := ofCb 0xFC rfl rfl
theorem set7L : Statement .set7L := ofCb 0xFD rfl rfl
theorem set7AtHl : Statement .set7AtHl := ofCb 0xFE rfl rfl
theorem set7A : Statement .set7A := ofCb 0xFF rfl rfl

end Sys2Proof.Laws.RoundTrip
end

