-- ==== Sys2Proof/Laws/Slot.lean ====
section
/-! SUPPORT. Where the CPU's next gated tick is: an HDMA transfer that keeps to its window ends its blocks one by one, so
that the ticks up to the gated one are fewer than `slotBound` and are whole master ticks of the machine. -/

namespace Sys2Proof.Machine

/-! ### An HDMA block -/

/-- A state with other memory and cartridge contents. -/
def sameBut (s : State) (mem : List Host.Cell) (cart : Nat) : State := { s with mem := mem, cart := cart }

/-- A write of the HDMA engine within its window reaches memory or the cartridge, and no register. -/
theorem mmuWrite_window (s : State) (a : Word) (v : Byte) (h : 0x8000 ≤ a.toNat) (h' : a.toNat < 0xC000) :
    ∃ m c, mmuWrite s a v = sameBut s m c := by
  have hr : (∃ k, region s a = .cell k) ∨ ∃ n, region s a = .cart n := by
    simp only [region]
    rw [if_neg (by omega)]
    split
    · exact .inl ⟨_, rfl⟩
    · exact .inr ⟨_, rfl⟩
  rcases hr with ⟨k, hk⟩ | ⟨n, hn⟩
  · exact ⟨_, s.cart, by rw [mmuWrite, hk]; rfl⟩
  · exact ⟨s.mem, _, by rw [mmuWrite, hn]; rfl⟩

theorem copyBlock_window (src dst : Word) (n j : Nat) (s : State) (h : 0x8000 ≤ dst.toNat)
    (h' : dst.toNat + (j + n) ≤ 0xC000) : ∃ m c, copyBlock src dst n j s = sameBut s m c := by
  induction n generalizing j s with
  | zero => exact ⟨s.mem, s.cart, rfl⟩
  | succ n ih =>
    have ha : (dst + BitVec.ofNat 16 j).toNat = dst.toNat + j := by
      rw [BitVec.toNat_add, BitVec.toNat_ofNat]; omega
    obtain ⟨m, c, hw⟩ := mmuWrite_window s (dst + BitVec.ofNat 16 j) (mmuRead s (src + BitVec.ofNat 16 j))
      (by omega) (by omega)
    obtain ⟨m', c', hc⟩ := ih (j + 1) (sameBut s m c) (by omega)
    exact ⟨m', c', by rw [copyBlock, hw, hc]; rfl⟩

/-- What one tick of an HDMA transfer within its window does: it counts, or it copies a block into memory or the
cartridge and moves on. -/
theorem hdmaTick_cases (s : State) (h : 0x8000 ≤ s.hdma.dst.toNat) (h' : s.hdma.dst.toNat + 16 ≤ 0xC000) :
    (s.hdma.tick + 1 < s.cfg.hdmaBlockTicks ∧ hdmaTick s = { s with hdma := { s.hdma with tick := s.hdma.tick + 1 } }) ∨
    (s.cfg.hdmaBlockTicks ≤ s.hdma.tick + 1 ∧
      ∃ m c, hdmaTick s = { s with hdma := s.hdma.blockDone, mem := m, cart := c }) := by
  unfold hdmaTick
  split
  · exact .inl ⟨‹_›, rfl⟩
  · obtain ⟨m, c, hc⟩ := copyBlock_window s.hdma.src s.hdma.dst 16 0 (hdmaCount s) h (by omega)
    exact .inr ⟨by omega, m, c, by rw [hc]; rfl⟩

/-! ### The window is kept -/

theorem preCpu_hdma (s : State) : (preCpu s).hdma = s.hdma := rfl

theorem postCpu_hdma (s : State) :
    (postCpu s).hdma = { s.hdma with gpuModeSeen := (postCpu s).hdma.gpuModeSeen, lcdOn := (postCpu s).hdma.lcdOn } := rfl

theorem HdmaWithin_preCpu {s : State} (h : s.HdmaWithin) : (preCpu s).HdmaWithin := h

theorem HdmaWithin_postCpu {s : State} (h : s.HdmaWithin) : (postCpu s).HdmaWithin := h

theorem HdmaWithin_countCycle {s : State} (h : s.HdmaWithin) : (countCycle s).HdmaWithin := h

/-- A block moves the window along. -/
theorem HdmaWithin_hdmaTick {s : State} (h : s.HdmaWithin) (hc : s.cfg.cgb = true) (hp : s.hdma.inProgress = true) :
    (hdmaTick s).HdmaWithin := by
  obtain ⟨h1, h2⟩ := h hc hp
  have h3 := s.hdma.length.isLt
  rcases hdmaTick_cases s h1 (by omega) with ⟨_, he⟩ | ⟨_, m, c, he⟩
  · rw [he]; exact fun _ _ => ⟨h1, h2⟩
  · rw [he]
    intro _ hp'
    simp only [Hdma.blockDone] at hp' ⊢
    by_cases hl : s.hdma.length = 0
    · simp [hl] at hp'
    · have hn : s.hdma.length.toNat ≠ 0 := fun h0 => hl (BitVec.eq_of_toNat_eq h0)
      have hm : (s.hdma.length - 1).toNat = s.hdma.length.toNat - 1 := by
        rw [BitVec.toNat_sub]; simp; omega
      have hd : (s.hdma.dst + 0x10).toNat = s.hdma.dst.toNat + 16 := by
        rw [BitVec.toNat_add]; simp; omega
      rw [if_neg hl, hm, hd]
      omega

/-! ### The bound -/

/-- The ticks of a block, at least one. -/
def State.blockTicks (s : State) : Nat := max 1 s.cfg.hdmaBlockTicks

/-- The ticks an HDMA transfer still needs. -/
def State.hdmaLeft (s : State) : Nat :=
  if s.cfg.cgb && s.hdma.inProgress then
    s.hdma.length.toNat * s.blockTicks + (s.blockTicks - min s.hdma.tick (s.blockTicks - 1))
  else 0

/-- The ticks of the CPU up to its gated one. -/
def State.cycleLeft (s : State) : Nat := s.ticksPerCycle - s.eng.clockCycle

theorem hdmaLeft_preCpu (s : State) : (preCpu s).hdmaLeft = s.hdmaLeft := rfl
theorem hdmaLeft_postCpu (s : State) : (postCpu s).hdmaLeft = s.hdmaLeft := rfl
theorem hdmaLeft_countCycle (s : State) : (countCycle s).hdmaLeft = s.hdmaLeft := rfl
theorem cycleLeft_postCpu (s : State) : (postCpu s).cycleLeft = s.cycleLeft := rfl
theorem postCpu_faulted (s : State) : (postCpu s).eng.faulted = s.eng.faulted := rfl

theorem hdmaLeft_le (s : State) : s.hdmaLeft ≤ 128 * (s.cfg.hdmaBlockTicks + 1) := by
  unfold State.hdmaLeft
  split
  · have h1 : s.blockTicks ≤ s.cfg.hdmaBlockTicks + 1 := by unfold State.blockTicks; omega
    have h2 : s.hdma.length.toNat * s.blockTicks ≤ 127 * s.blockTicks :=
      Nat.mul_le_mul_right _ (by have := s.hdma.length.isLt; omega)
    omega
  · omega

theorem cycleLeft_le (s : State) : s.cycleLeft ≤ 4 := by
  unfold State.cycleLeft State.ticksPerCycle
  have : 4 / s.spd.speed.factor ≤ 4 := Nat.div_le_self _ _
  omega

/-- An HDMA tick is one tick less of the transfer. -/
theorem hdmaTick_left {s : State} (h : s.HdmaWithin) (hc : s.cfg.cgb = true) (hp : s.hdma.inProgress = true) :
    (hdmaTick s).hdmaLeft < s.hdmaLeft ∧ (hdmaTick s).cycleLeft = s.cycleLeft := by
  obtain ⟨h1, h2⟩ := h hc hp
  have h3 := s.hdma.length.isLt
  have hb : 1 ≤ s.blockTicks := by unfold State.blockTicks; omega
  have hs : s.hdmaLeft = s.hdma.length.toNat * s.blockTicks + (s.blockTicks - min s.hdma.tick (s.blockTicks - 1)) := by
    simp [State.hdmaLeft, hc, hp]
  rcases hdmaTick_cases s h1 (by omega) with ⟨ht, he⟩ | ⟨_, m, c, he⟩
  · refine ⟨?_, by rw [he]; rfl⟩
    have hl : (hdmaTick s).hdmaLeft =
        s.hdma.length.toNat * s.blockTicks + (s.blockTicks - min (s.hdma.tick + 1) (s.blockTicks - 1)) := by
      rw [he]; simp [State.hdmaLeft, hc, hp, State.blockTicks]
    have hk : s.blockTicks = s.cfg.hdmaBlockTicks := by unfold State.blockTicks; omega
    omega
  · refine ⟨?_, by rw [he]; rfl⟩
    by_cases hl : s.hdma.length = 0
    · have : (hdmaTick s).hdmaLeft = 0 := by rw [he]; simp [State.hdmaLeft, Hdma.blockDone, hl]
      omega
    · have hn : s.hdma.length.toNat ≠ 0 := fun h0 => hl (BitVec.eq_of_toNat_eq h0)
      have hm : (s.hdma.length - 1).toNat = s.hdma.length.toNat - 1 := by
        rw [BitVec.toNat_sub]; simp; omega
      have : (hdmaTick s).hdmaLeft = (s.hdma.length.toNat - 1) * s.blockTicks + s.blockTicks := by
        rw [he]; simp only [State.hdmaLeft, Hdma.blockDone, hc, hp, hl, if_false, hm]; simp [State.blockTicks]
      have hx : s.hdma.length.toNat * s.blockTicks = (s.hdma.length.toNat - 1) * s.blockTicks + s.blockTicks := by
        rw [← Nat.succ_mul]; congr 1; omega
      omega

/-! ### The stop flag -/

theorem loops_eq_true {s : State} : s.loops = true ↔ s.eng.faulted = none ∧ s.host.stopFlag = false := by
  simp [State.loops]

/-- Out of the loop nothing changes. -/
theorem ticks_stopped {s : State} (h : s.loops = false) (n : Nat) : ticks n s = s := by
  induction n with
  | zero => rfl
  | succ n ih =>
    have hm : machineTick s = s := by rw [machineTick, h]; rfl
    rw [ticks, hm, ih]

theorem ticks_succ (n : Nat) (s : State) : ticks (n + 1) s = machineTick (ticks n s) := by
  induction n generalizing s with
  | zero => rfl
  | succ n ih => rw [ticks, ih, ticks]

theorem untilStopped_live (s : State) {t : State} (h : t.host.stopFlag = false) : untilStopped s t = t := by
  rw [untilStopped, h]; rfl

/-- A step in which the flag was set is a run of master ticks by definition. -/
theorem untilStopped_ticks (s : State) {t : State} (h : t.host.stopFlag = true) :
    untilStopped s t = ticks (t.masterTicks - s.masterTicks) s := by
  rw [untilStopped, if_pos h]

theorem stopFlag_preCpu {s : State} (h : s.host.stopFlag = true) : (preCpu s).host.stopFlag = true := by
  show (s.host.stopFlag || _) = true
  rw [h]; rfl

theorem refresh_stopFlag (h : HostSide) (r : Option Mode) : (h.refresh r).stopFlag = h.stopFlag := by
  unfold HostSide.refresh
  split
  · rfl
  · split <;> rfl

theorem stopFlag_postCpu (s : State) : (postCpu s).host.stopFlag = s.host.stopFlag := refresh_stopFlag _ _

theorem stopFlag_writeAt (s : State) (p : Place) (v : Byte) : (writeAt s p v).host.stopFlag = s.host.stopFlag := by
  cases p <;> rfl

theorem stopFlag_copyBlock (src dst : Word) (n j : Nat) (s : State) :
    (copyBlock src dst n j s).host.stopFlag = s.host.stopFlag := by
  induction n generalizing j s with
  | zero => rfl
  | succ n ih => rw [copyBlock, ih, mmuWrite, stopFlag_writeAt]

theorem stopFlag_hdmaTick (s : State) : (hdmaTick s).host.stopFlag = s.host.stopFlag := by
  unfold hdmaTick
  split
  · rfl
  · exact stopFlag_copyBlock _ _ _ _ _

/-- Once set, the flag stays. -/
theorem stopFlag_toSlot (n : Nat) {s : State} (h : s.host.stopFlag = true) : (toSlot n s).host.stopFlag = true := by
  induction n generalizing s with
  | zero => exact h
  | succ n ih =>
    simp only [toSlot]
    split
    · exact ih (by rw [stopFlag_postCpu, stopFlag_hdmaTick, stopFlag_preCpu h])
    · split
      · exact stopFlag_preCpu h
      · exact ih (by rw [stopFlag_postCpu]; exact stopFlag_preCpu h)

/-! ### Master ticks up to the gated one -/

/-- With enough ticks allowed, `toSlot` ends in the gated tick of a master tick, after whole ones. -/
theorem toSlot_is_ticks (n : Nat) (s : State) (h : s.HdmaWithin) (hf : s.eng.faulted = none)
    (hs : (toSlot n s).host.stopFlag = false) (hn : s.hdmaLeft + s.cycleLeft + 1 ≤ n) :
    ∃ k, toSlot n s = countCycle (preCpu (ticks k s)) ∧ (preCpu (ticks k s)).hdmaActive = false ∧
      (preCpu (ticks k s)).atGate = true ∧ (ticks k s).loops = true := by
  induction n generalizing s with
  | zero => omega
  | succ n ih =>
    have hf1 : (preCpu s).eng.faulted = none := hf
    have hs0 : s.host.stopFlag = false := by
      cases hc : s.host.stopFlag with
      | false => rfl
      | true => rw [stopFlag_toSlot _ hc] at hs; exact hs
    have hl0 : s.loops = true := loops_eq_true.2 ⟨hf, hs0⟩
    simp only [toSlot] at hs ⊢
    by_cases ha : (preCpu s).hdmaActive = true
    · have ha' : s.cfg.cgb = true ∧ s.hdma.inProgress = true := by
        have hx : (s.cfg.cgb && (s.hdma.inProgress &&
          (!s.hdma.hblankTransfer || decide (s.hdma.gpuModeSeen = some .hblank) || !s.hdma.lcdOn))) = true := ha
        simp only [Bool.and_eq_true] at hx
        exact ⟨hx.1, hx.2.1⟩
      have hl := hdmaTick_left (s := preCpu s) h ha'.1 ha'.2
      have hfh : (hdmaTick (preCpu s)).eng.faulted = none :=
        (congrArg (fun t => t.eng.faulted) (hdmaTick_timeless (preCpu s))).trans hf1
      have hm : machineTick s = postCpu (hdmaTick (preCpu s)) := by
        simp [machineTick, hl0, ha, endTick, hfh]
      rw [if_pos ha] at hs ⊢
      have hb : (hdmaTick (preCpu s)).hdmaLeft < s.hdmaLeft ∧ (hdmaTick (preCpu s)).cycleLeft = s.cycleLeft := hl
      obtain ⟨k, h1, h2⟩ := ih (postCpu (hdmaTick (preCpu s)))
        (HdmaWithin_postCpu (HdmaWithin_hdmaTick (HdmaWithin_preCpu h) ha'.1 ha'.2)) (by rw [postCpu_faulted, hfh]) hs
        (by rw [hdmaLeft_postCpu, cycleLeft_postCpu]; omega)
      exact ⟨k + 1, by rw [h1, ticks, hm], by rw [ticks, hm]; exact h2⟩
    · rw [if_neg ha] at hs ⊢
      have ha : (preCpu s).hdmaActive = false := by simpa using ha
      by_cases hg : (preCpu s).atGate = true
      · rw [if_pos hg]
        exact ⟨0, rfl, ha, hg, hl0⟩
      · rw [if_neg hg] at hs ⊢
        have hg : (preCpu s).atGate = false := by simpa using hg
        have hlt : s.eng.clockCycle + 1 < s.ticksPerCycle := by
          have : decide (s.ticksPerCycle ≤ s.eng.clockCycle + 1) = false := hg
          simpa using this
        have hfc : (countCycle (preCpu s)).eng.faulted = none := hf
        have hm : machineTick s = postCpu (countCycle (preCpu s)) := by
          simp [machineTick, hl0, ha, endTick, cpuTick, hf1, hg]
        have hcl : (countCycle (preCpu s)).cycleLeft + 1 = s.cycleLeft := by
          have hcc : (countCycle (preCpu s)).eng.clockCycle = s.eng.clockCycle + 1 := by
            show (if (preCpu s).atGate = true then 0 else s.eng.clockCycle + 1) = _
            rw [hg]; rfl
          have ht : (countCycle (preCpu s)).ticksPerCycle = s.ticksPerCycle := rfl
          simp only [State.cycleLeft, hcc, ht]
          omega
        obtain ⟨k, h1, h2⟩ := ih (postCpu (countCycle (preCpu s)))
          (HdmaWithin_postCpu (HdmaWithin_countCycle (HdmaWithin_preCpu h))) (by rw [postCpu_faulted, hfc]) hs
          (by rw [hdmaLeft_postCpu, cycleLeft_postCpu, hdmaLeft_countCycle, hdmaLeft_preCpu]; omega)
        exact ⟨k + 1, by rw [h1, ticks, hm], by rw [ticks, hm]; exact h2⟩

/-- From a boundary the CPU's next gated tick lies in a master tick, some whole ones later. -/
theorem nextSlot_is_ticks (s : State) (h : s.HdmaWithin) (hf : s.eng.faulted = none)
    (hs : (nextSlot s).host.stopFlag = false) :
    ∃ k, nextSlot s = countCycle (preCpu (ticks k s)) ∧ (preCpu (ticks k s)).hdmaActive = false ∧
      (preCpu (ticks k s)).atGate = true ∧ (ticks k s).loops = true :=
  toSlot_is_ticks _ s h hf hs (by
    have h1 := hdmaLeft_le s
    have h2 := cycleLeft_le s
    unfold State.slotBound
    omega)

/-- The master tick in which that gated tick lies. -/
theorem ticks_to_slot (s : State) (h : s.HdmaWithin) (hf : s.eng.faulted = none)
    (hs : (nextSlot s).host.stopFlag = false) : ∃ k, ticks k s = endTick (gatedTick (nextSlot s)) := by
  obtain ⟨k, h1, h2, h3, h4⟩ := nextSlot_is_ticks s h hf hs
  refine ⟨k + 1, ?_⟩
  have h5 : (preCpu (ticks k s)).eng.faulted = none := (loops_eq_true.1 h4).1
  rw [ticks_succ, h1]
  simp [machineTick, h4, h2, cpuTick, h5, h3]

end Sys2Proof.Machine
end

