-- ==== Sys2Proof/Tests/Slice0.lean ====
section
/-! SUPPORT. The model's own tests: WellFormed's checks, the decoding of a written-out word for every constructor, small
tests of single instructions and devices with values from the spec's examples and vectors (spec/95_test_vectors.md and
the example of each rule), and a witness for the hypotheses of every statement. -/

set_option Elab.async false

namespace Sys2Proof.Machine

/-! ### WellFormed: one ill-formed term for each check, and the ends of the range (spec/30_encoding.md R134) -/

theorem test_wf_refuses_jr : (Instr.jrR8 128).wf = false := by decide
theorem test_wf_refuses_jr_nz : (Instr.jrNzR8 (-129)).wf = false := by decide
theorem test_wf_refuses_jr_z : (Instr.jrZR8 255).wf = false := by decide
theorem test_wf_refuses_jr_nc : (Instr.jrNcR8 128).wf = false := by decide
theorem test_wf_refuses_jr_c : (Instr.jrCR8 (-200)).wf = false := by decide
theorem test_wf_refuses_add_sp : (Instr.addSpR8 128).wf = false := by decide
theorem test_wf_refuses_ld_hl_sp : (Instr.ldHlSpR8 (-129)).wf = false := by decide
theorem test_wf_accepts_ends : (Instr.jrR8 127).wf = true ∧ (Instr.addSpR8 (-128)).wf = true := by decide

/-! ### Decoding: words written out from spec/30_encoding.md R139 to R145 -/

/-- The decoder reads these bytes as exactly this instruction. -/
def readsAs (w : List Byte × Instr) : Bool :=
  match decode w.1 with
  | .ok (i, rest) => decide (i = w.2) && rest.isEmpty
  | .error _ => false

theorem test_decode_row_0x : ([
    ([0x00], .nop), ([0x01, 0x34, 0xC2], .ldBcD16 0xC234), ([0x02], .ldAtBcA), ([0x03], .incBc),
    ([0x04], .incB), ([0x05], .decB), ([0x06, 0xA5], .ldBD8 0xA5), ([0x07], .rlca),
    ([0x08, 0x34, 0xC2], .ldAtA16Sp 0xC234), ([0x09], .addHlBc), ([0x0A], .ldAAtBc), ([0x0B], .decBc),
    ([0x0C], .incC), ([0x0D], .decC), ([0x0E, 0xA5], .ldCD8 0xA5), ([0x0F], .rrca)
    ] : List (List Byte × Instr)).all readsAs = true := by decide +kernel

theorem test_decode_row_1x : ([
    ([0x10, 0xA5], .stop 0xA5), ([0x11, 0x34, 0xC2], .ldDeD16 0xC234), ([0x12], .ldAtDeA), ([0x13], .incDe),
    ([0x14], .incD), ([0x15], .decD), ([0x16, 0xA5], .ldDD8 0xA5), ([0x17], .rla),
    ([0x18, 0x85], .jrR8 (-123)), ([0x19], .addHlDe), ([0x1A], .ldAAtDe), ([0x1B], .decDe),
    ([0x1C], .incE), ([0x1D], .decE), ([0x1E, 0xA5], .ldED8 0xA5), ([0x1F], .rra)
    ] : List (List Byte × Instr)).all readsAs = true := by decide +kernel

theorem test_decode_row_2x : ([
    ([0x20, 0x85], .jrNzR8 (-123)), ([0x21, 0x34, 0xC2], .ldHlD16 0xC234), ([0x22], .ldAtHlIncA), ([0x23], .incHl),
    ([0x24], .incH), ([0x25], .decH), ([0x26, 0xA5], .ldHD8 0xA5), ([0x27], .daa),
    ([0x28, 0x85], .jrZR8 (-123)), ([0x29], .addHlHl), ([0x2A], .ldAAtHlInc), ([0x2B], .decHl),
    ([0x2C], .incL), ([0x2D], .decL), ([0x2E, 0xA5], .ldLD8 0xA5), ([0x2F], .cpl)
    ] : List (List Byte × Instr)).all readsAs = true := by decide +kernel

theorem test_decode_row_3x : ([
    ([0x30, 0x85], .jrNcR8 (-123)), ([0x31, 0x34, 0xC2], .ldSpD16 0xC234), ([0x32], .ldAtHlDecA), ([0x33], .incSp),
    ([0x34], .incAtHl), ([0x35], .decAtHl), ([0x36, 0xA5], .ldAtHlD8 0xA5), ([0x37], .scf),
    ([0x38, 0x85], .jrCR8 (-123)), ([0x39], .addHlSp), ([0x3A], .ldAAtHlDec), ([0x3B], .decSp),
    ([0x3C], .incA), ([0x3D], .decA), ([0x3E, 0xA5], .ldAD8 0xA5), ([0x3F], .ccf)
    ] : List (List Byte × Instr)).all readsAs = true := by decide +kernel

theorem test_decode_row_4x : ([
    ([0x40], .ldBB), ([0x41], .ldBC), ([0x42], .ldBD), ([0x43], .ldBE),
    ([0x44], .ldBH), ([0x45], .ldBL), ([0x46], .ldBAtHl), ([0x47], .ldBA),
    ([0x48], .ldCB), ([0x49], .ldCC), ([0x4A], .ldCD), ([0x4B], .ldCE),
    ([0x4C], .ldCH), ([0x4D], .ldCL), ([0x4E], .ldCAtHl), ([0x4F], .ldCA)
    ] : List (List Byte × Instr)).all readsAs = true := by decide +kernel

theorem test_decode_row_5x : ([
    ([0x50], .ldDB), ([0x51], .ldDC), ([0x52], .ldDD), ([0x53], .ldDE),
    ([0x54], .ldDH), ([0x55], .ldDL), ([0x56], .ldDAtHl), ([0x57], .ldDA),
    ([0x58], .ldEB), ([0x59], .ldEC), ([0x5A], .ldED), ([0x5B], .ldEE),
    ([0x5C], .ldEH), ([0x5D], .ldEL), ([0x5E], .ldEAtHl), ([0x5F], .ldEA)
    ] : List (List Byte × Instr)).all readsAs = true := by decide +kernel

theorem test_decode_row_6x : ([
    ([0x60], .ldHB), ([0x61], .ldHC), ([0x62], .ldHD), ([0x63], .ldHE),
    ([0x64], .ldHH), ([0x65], .ldHL), ([0x66], .ldHAtHl), ([0x67], .ldHA),
    ([0x68], .ldLB), ([0x69], .ldLC), ([0x6A], .ldLD), ([0x6B], .ldLE),
    ([0x6C], .ldLH), ([0x6D], .ldLL), ([0x6E], .ldLAtHl), ([0x6F], .ldLA)
    ] : List (List Byte × Instr)).all readsAs = true := by decide +kernel

theorem test_decode_row_7x : ([
    ([0x70], .ldAtHlB), ([0x71], .ldAtHlC), ([0x72], .ldAtHlD), ([0x73], .ldAtHlE),
    ([0x74], .ldAtHlH), ([0x75], .ldAtHlL), ([0x76], .halt), ([0x77], .ldAtHlA),
    ([0x78], .ldAB), ([0x79], .ldAC), ([0x7A], .ldAD), ([0x7B], .ldAE),
    ([0x7C], .ldAH), ([0x7D], .ldAL), ([0x7E], .ldAAtHl), ([0x7F], .ldAA)
    ] : List (List Byte × Instr)).all readsAs = true := by decide +kernel

theorem test_decode_row_8x : ([
    ([0x80], .addB), ([0x81], .addC), ([0x82], .addD), ([0x83], .addE),
    ([0x84], .addH), ([0x85], .addL), ([0x86], .addAtHl), ([0x87], .addA),
    ([0x88], .adcB), ([0x89], .adcC), ([0x8A], .adcD), ([0x8B], .adcE),
    ([0x8C], .adcH), ([0x8D], .adcL), ([0x8E], .adcAtHl), ([0x8F], .adcA)
    ] : List (List Byte × Instr)).all readsAs = true := by decide +kernel

theorem test_decode_row_9x : ([
    ([0x90], .subB), ([0x91], .subC), ([0x92], .subD), ([0x93], .subE),
    ([0x94], .subH), ([0x95], .subL), ([0x96], .subAtHl), ([0x97], .subA),
    ([0x98], .sbcB), ([0x99], .sbcC), ([0x9A], .sbcD), ([0x9B], .sbcE),
    ([0x9C], .sbcH), ([0x9D], .sbcL), ([0x9E], .sbcAtHl), ([0x9F], .sbcA)
    ] : List (List Byte × Instr)).all readsAs = true := by decide +kernel

theorem test_decode_row_Ax : ([
    ([0xA0], .andB), ([0xA1], .andC), ([0xA2], .andD), ([0xA3], .andE),
    ([0xA4], .andH), ([0xA5], .andL), ([0xA6], .andAtHl), ([0xA7], .andA),
    ([0xA8], .xorB), ([0xA9], .xorC), ([0xAA], .xorD), ([0xAB], .xorE),
    ([0xAC], .xorH), ([0xAD], .xorL), ([0xAE], .xorAtHl), ([0xAF], .xorA)
    ] : List (List Byte × Instr)).all readsAs = true := by decide +kernel

theorem test_decode_row_Bx : ([
    ([0xB0], .orB), ([0xB1], .orC), ([0xB2], .orD), ([0xB3], .orE),
    ([0xB4], .orH), ([0xB5], .orL), ([0xB6], .orAtHl), ([0xB7], .orA),
    ([0xB8], .cpB), ([0xB9], .cpC), ([0xBA], .cpD), ([0xBB], .cpE),
    ([0xBC], .cpH), ([0xBD], .cpL), ([0xBE], .cpAtHl), ([0xBF], .cpA)
    ] : List (List Byte × Instr)).all readsAs = true := by decide +kernel

theorem test_decode_row_Cx : ([
    ([0xC0], .retNz), ([0xC1], .popBc), ([0xC2, 0x34, 0xC2], .jpNzA16 0xC234), ([0xC3, 0x34, 0xC2], .jpA16 0xC234),
    ([0xC4, 0x34, 0xC2], .callNzA16 0xC234), ([0xC5], .pushBc), ([0xC6, 0xA5], .addD8 0xA5), ([0xC7], .rst00),
    ([0xC8], .retZ), ([0xC9], .ret), ([0xCA, 0x34, 0xC2], .jpZA16 0xC234), ([0xCC, 0x34, 0xC2], .callZA16 0xC234),
    ([0xCD, 0x34, 0xC2], .callA16 0xC234), ([0xCE, 0xA5], .adcD8 0xA5), ([0xCF], .rst08)
    ] : List (List Byte × Instr)).all readsAs = true := by decide +kernel

theorem test_decode_row_Dx : ([
    ([0xD0], .retNc), ([0xD1], .popDe), ([0xD2, 0x34, 0xC2], .jpNcA16 0xC234), ([0xD3], .illegalD3),
    ([0xD4, 0x34, 0xC2], .callNcA16 0xC234), ([0xD5], .pushDe), ([0xD6, 0xA5], .subD8 0xA5), ([0xD7], .rst10),
    ([0xD8], .retC), ([0xD9], .reti), ([0xDA, 0x34, 0xC2], .jpCA16 0xC234), ([0xDB], .illegalDB),
    ([0xDC, 0x34, 0xC2], .callCA16 0xC234), ([0xDD], .illegalDD), ([0xDE, 0xA5], .sbcD8 0xA5), ([0xDF], .rst18)
    ] : List (List Byte × Instr)).all readsAs = true := by decide +kernel

theorem test_decode_row_Ex : ([
    ([0xE0, 0xA5], .ldhAtA8A 0xA5), ([0xE1], .popHl), ([0xE2], .ldAtCA), ([0xE3], .illegalE3),
    ([0xE4], .illegalE4), ([0xE5], .pushHl), ([0xE6, 0xA5], .andD8 0xA5), ([0xE7], .rst20),
    ([0xE8, 0x85], .addSpR8 (-123)), ([0xE9], .jpAtHl), ([0xEA, 0x34, 0xC2], .ldAtA16A 0xC234), ([0xEB], .illegalEB),
    ([0xEC], .illegalEC), ([0xED], .illegalED), ([0xEE, 0xA5], .xorD8 0xA5), ([0xEF], .rst28)
    ] : List (List Byte × Instr)).all readsAs = true := by decide +kernel

theorem test_decode_row_Fx : ([
    ([0xF0, 0xA5], .ldhAAtA8 0xA5), ([0xF1], .popAf), ([0xF2], .ldAAtC), ([0xF3], .di),
    ([0xF4], .illegalF4), ([0xF5], .pushAf), ([0xF6, 0xA5], .orD8 0xA5), ([0xF7], .rst30),
    ([0xF8, 0x85], .ldHlSpR8 (-123)), ([0xF9], .ldSpHl), ([0xFA, 0x34, 0xC2], .ldAAtA16 0xC234), ([0xFB], .ei),
    ([0xFC], .illegalFC), ([0xFD], .illegalFD), ([0xFE, 0xA5], .cpD8 0xA5), ([0xFF], .rst38)
    ] : List (List Byte × Instr)).all readsAs = true := by decide +kernel

theorem test_decode_row_CB_0x : ([
    ([0xCB, 0x00], .rlcB), ([0xCB, 0x01], .rlcC), ([0xCB, 0x02], .rlcD), ([0xCB, 0x03], .rlcE),
    ([0xCB, 0x04], .rlcH), ([0xCB, 0x05], .rlcL), ([0xCB, 0x06], .rlcAtHl), ([0xCB, 0x07], .rlcA),
    ([0xCB, 0x08], .rrcB), ([0xCB, 0x09], .rrcC), ([0xCB, 0x0A], .rrcD), ([0xCB, 0x0B], .rrcE),
    ([0xCB, 0x0C], .rrcH), ([0xCB, 0x0D], .rrcL), ([0xCB, 0x0E], .rrcAtHl), ([0xCB, 0x0F], .rrcA)
    ] : List (List Byte × Instr)).all readsAs = true := by decide +kernel

theorem test_decode_row_CB_1x : ([
    ([0xCB, 0x10], .rlB), ([0xCB, 0x11], .rlC), ([0xCB, 0x12], .rlD), ([0xCB, 0x13], .rlE),
    ([0xCB, 0x14], .rlH), ([0xCB, 0x15], .rlL), ([0xCB, 0x16], .rlAtHl), ([0xCB, 0x17], .rlA),
    ([0xCB, 0x18], .rrB), ([0xCB, 0x19], .rrC), ([0xCB, 0x1A], .rrD), ([0xCB, 0x1B], .rrE),
    ([0xCB, 0x1C], .rrH), ([0xCB, 0x1D], .rrL), ([0xCB, 0x1E], .rrAtHl), ([0xCB, 0x1F], .rrA)
    ] : List (List Byte × Instr)).all readsAs = true := by decide +kernel

theorem test_decode_row_CB_2x : ([
    ([0xCB, 0x20], .slaB), ([0xCB, 0x21], .slaC), ([0xCB, 0x22], .slaD), ([0xCB, 0x23], .slaE),
    ([0xCB, 0x24], .slaH), ([0xCB, 0x25], .slaL), ([0xCB, 0x26], .slaAtHl), ([0xCB, 0x27], .slaA),
    ([0xCB, 0x28], .sraB), ([0xCB, 0x29], .sraC), ([0xCB, 0x2A], .sraD), ([0xCB, 0x2B], .sraE),
    ([0xCB, 0x2C], .sraH), ([0xCB, 0x2D], .sraL), ([0xCB, 0x2E], .sraAtHl), ([0xCB, 0x2F], .sraA)
    ] : List (List Byte × Instr)).all readsAs = true := by decide +kernel

theorem test_decode_row_CB_3x : ([
    ([0xCB, 0x30], .swapB), ([0xCB, 0x31], .swapC), ([0xCB, 0x32], .swapD), ([0xCB, 0x33], .swapE),
    ([0xCB, 0x34], .swapH), ([0xCB, 0x35], .swapL), ([0xCB, 0x36], .swapAtHl), ([0xCB, 0x37], .swapA),
    ([0xCB, 0x38], .srlB), ([0xCB, 0x39], .srlC), ([0xCB, 0x3A], .srlD), ([0xCB, 0x3B], .srlE),
    ([0xCB, 0x3C], .srlH), ([0xCB, 0x3D], .srlL), ([0xCB, 0x3E], .srlAtHl), ([0xCB, 0x3F], .srlA)
    ] : List (List Byte × Instr)).all readsAs = true := by decide +kernel

theorem test_decode_row_CB_4x : ([
    ([0xCB, 0x40], .bit0B), ([0xCB, 0x41], .bit0C), ([0xCB, 0x42], .bit0D), ([0xCB, 0x43], .bit0E),
    ([0xCB, 0x44], .bit0H), ([0xCB, 0x45], .bit0L), ([0xCB, 0x46], .bit0AtHl), ([0xCB, 0x47], .bit0A),
    ([0xCB, 0x48], .bit1B), ([0xCB, 0x49], .bit1C), ([0xCB, 0x4A], .bit1D), ([0xCB, 0x4B], .bit1E),
    ([0xCB, 0x4C], .bit1H), ([0xCB, 0x4D], .bit1L), ([0xCB, 0x4E], .bit1AtHl), ([0xCB, 0x4F], .bit1A)
    ] : List (List Byte × Instr)).all readsAs = true := by decide +kernel

theorem test_decode_row_CB_5x : ([
    ([0xCB, 0x50], .bit2B), ([0xCB, 0x51], .bit2C), ([0xCB, 0x52], .bit2D), ([0xCB, 0x53], .bit2E),
    ([0xCB, 0x54], .bit2H), ([0xCB, 0x55], .bit2L), ([0xCB, 0x56], .bit2AtHl), ([0xCB, 0x57], .bit2A),
    ([0xCB, 0x58], .bit3B), ([0xCB, 0x59], .bit3C), ([0xCB, 0x5A], .bit3D), ([0xCB, 0x5B], .bit3E),
    ([0xCB, 0x5C], .bit3H), ([0xCB, 0x5D], .bit3L), ([0xCB, 0x5E], .bit3AtHl), ([0xCB, 0x5F], .bit3A)
    ] : List (List Byte × Instr)).all readsAs = true := by decide +kernel

theorem test_decode_row_CB_6x : ([
    ([0xCB, 0x60], .bit4B), ([0xCB, 0x61], .bit4C), ([0xCB, 0x62], .bit4D), ([0xCB, 0x63], .bit4E),
    ([0xCB, 0x64], .bit4H), ([0xCB, 0x65], .bit4L), ([0xCB, 0x66], .bit4AtHl), ([0xCB, 0x67], .bit4A),
    ([0xCB, 0x68], .bit5B), ([0xCB, 0x69], .bit5C), ([0xCB, 0x6A], .bit5D), ([0xCB, 0x6B], .bit5E),
    ([0xCB, 0x6C], .bit5H), ([0xCB, 0x6D], .bit5L), ([0xCB, 0x6E], .bit5AtHl), ([0xCB, 0x6F], .bit5A)
    ] : List (List Byte × Instr)).all readsAs = true := by decide +kernel

theorem test_decode_row_CB_7x : ([
    ([0xCB, 0x70], .bit6B), ([0xCB, 0x71], .bit6C), ([0xCB, 0x72], .bit6D), ([0xCB, 0x73], .bit6E),
    ([0xCB, 0x74], .bit6H), ([0xCB, 0x75], .bit6L), ([0xCB, 0x76], .bit6AtHl), ([0xCB, 0x77], .bit6A),
    ([0xCB, 0x78], .bit7B), ([0xCB, 0x79], .bit7C), ([0xCB, 0x7A], .bit7D), ([0xCB, 0x7B], .bit7E),
    ([0xCB, 0x7C], .bit7H), ([0xCB, 0x7D], .bit7L), ([0xCB, 0x7E], .bit7AtHl), ([0xCB, 0x7F], .bit7A)
    ] : List (List Byte × Instr)).all readsAs = true := by decide +kernel

theorem test_decode_row_CB_8x : ([
    ([0xCB, 0x80], .res0B), ([0xCB, 0x81], .res0C), ([0xCB, 0x82], .res0D), ([0xCB, 0x83], .res0E),
    ([0xCB, 0x84], .res0H), ([0xCB, 0x85], .res0L), ([0xCB, 0x86], .res0AtHl), ([0xCB, 0x87], .res0A),
    ([0xCB, 0x88], .res1B), ([0xCB, 0x89], .res1C), ([0xCB, 0x8A], .res1D), ([0xCB, 0x8B], .res1E),
    ([0xCB, 0x8C], .res1H), ([0xCB, 0x8D], .res1L), ([0xCB, 0x8E], .res1AtHl), ([0xCB, 0x8F], .res1A)
    ] : List (List Byte × Instr)).all readsAs = true := by decide +kernel

theorem test_decode_row_CB_9x : ([
    ([0xCB, 0x90], .res2B), ([0xCB, 0x91], .res2C), ([0xCB, 0x92], .res2D), ([0xCB, 0x93], .res2E),
    ([0xCB, 0x94], .res2H), ([0xCB, 0x95], .res2L), ([0xCB, 0x96], .res2AtHl), ([0xCB, 0x97], .res2A),
    ([0xCB, 0x98], .res3B), ([0xCB, 0x99], .res3C), ([0xCB, 0x9A], .res3D), ([0xCB, 0x9B], .res3E),
    ([0xCB, 0x9C], .res3H), ([0xCB, 0x9D], .res3L), ([0xCB, 0x9E], .res3AtHl), ([0xCB, 0x9F], .res3A)
    ] : List (List Byte × Instr)).all readsAs = true := by decide +kernel

theorem test_decode_row_CB_Ax : ([
    ([0xCB, 0xA0], .res4B), ([0xCB, 0xA1], .res4C), ([0xCB, 0xA2], .res4D), ([0xCB, 0xA3], .res4E),
    ([0xCB, 0xA4], .res4H), ([0xCB, 0xA5], .res4L), ([0xCB, 0xA6], .res4AtHl), ([0xCB, 0xA7], .res4A),
    ([0xCB, 0xA8], .res5B), ([0xCB, 0xA9], .res5C), ([0xCB, 0xAA], .res5D), ([0xCB, 0xAB], .res5E),
    ([0xCB, 0xAC], .res5H), ([0xCB, 0xAD], .res5L), ([0xCB, 0xAE], .res5AtHl), ([0xCB, 0xAF], .res5A)
    ] : List (List Byte × Instr)).all readsAs = true := by decide +kernel

theorem test_decode_row_CB_Bx : ([
    ([0xCB, 0xB0], .res6B), ([0xCB, 0xB1], .res6C), ([0xCB, 0xB2], .res6D), ([0xCB, 0xB3], .res6E),
    ([0xCB, 0xB4], .res6H), ([0xCB, 0xB5], .res6L), ([0xCB, 0xB6], .res6AtHl), ([0xCB, 0xB7], .res6A),
    ([0xCB, 0xB8], .res7B), ([0xCB, 0xB9], .res7C), ([0xCB, 0xBA], .res7D), ([0xCB, 0xBB], .res7E),
    ([0xCB, 0xBC], .res7H), ([0xCB, 0xBD], .res7L), ([0xCB, 0xBE], .res7AtHl), ([0xCB, 0xBF], .res7A)
    ] : List (List Byte × Instr)).all readsAs = true := by decide +kernel

theorem test_decode_row_CB_Cx : ([
    ([0xCB, 0xC0], .set0B), ([0xCB, 0xC1], .set0C), ([0xCB, 0xC2], .set0D), ([0xCB, 0xC3], .set0E),
    ([0xCB, 0xC4], .set0H), ([0xCB, 0xC5], .set0L), ([0xCB, 0xC6], .set0AtHl), ([0xCB, 0xC7], .set0A),
    ([0xCB, 0xC8], .set1B), ([0xCB, 0xC9], .set1C), ([0xCB, 0xCA], .set1D), ([0xCB, 0xCB], .set1E),
    ([0xCB, 0xCC], .set1H), ([0xCB, 0xCD], .set1L), ([0xCB, 0xCE], .set1AtHl), ([0xCB, 0xCF], .set1A)
    ] : List (List Byte × Instr)).all readsAs = true := by decide +kernel

theorem test_decode_row_CB_Dx : ([
    ([0xCB, 0xD0], .set2B), ([0xCB, 0xD1], .set2C), ([0xCB, 0xD2], .set2D), ([0xCB, 0xD3], .set2E),
    ([0xCB, 0xD4], .set2H), ([0xCB, 0xD5], .set2L), ([0xCB, 0xD6], .set2AtHl), ([0xCB, 0xD7], .set2A),
    ([0xCB, 0xD8], .set3B), ([0xCB, 0xD9], .set3C), ([0xCB, 0xDA], .set3D), ([0xCB, 0xDB], .set3E),
    ([0xCB, 0xDC], .set3H), ([0xCB, 0xDD], .set3L), ([0xCB, 0xDE], .set3AtHl), ([0xCB, 0xDF], .set3A)
    ] : List (List Byte × Instr)).all readsAs = true := by decide +kernel

theorem test_decode_row_CB_Ex : ([
    ([0xCB, 0xE0], .set4B), ([0xCB, 0xE1], .set4C), ([0xCB, 0xE2], .set4D), ([0xCB, 0xE3], .set4E),
    ([0xCB, 0xE4], .set4H), ([0xCB, 0xE5], .set4L), ([0xCB, 0xE6], .set4AtHl), ([0xCB, 0xE7], .set4A),
    ([0xCB, 0xE8], .set5B), ([0xCB, 0xE9], .set5C), ([0xCB, 0xEA], .set5D), ([0xCB, 0xEB], .set5E),
    ([0xCB, 0xEC], .set5H), ([0xCB, 0xED], .set5L), ([0xCB, 0xEE], .set5AtHl), ([0xCB, 0xEF], .set5A)
    ] : List (List Byte × Instr)).all readsAs = true := by decide +kernel

theorem test_decode_row_CB_Fx : ([
    ([0xCB, 0xF0], .set6B), ([0xCB, 0xF1], .set6C), ([0xCB, 0xF2], .set6D), ([0xCB, 0xF3], .set6E),
    ([0xCB, 0xF4], .set6H), ([0xCB, 0xF5], .set6L), ([0xCB, 0xF6], .set6AtHl), ([0xCB, 0xF7], .set6A),
    ([0xCB, 0xF8], .set7B), ([0xCB, 0xF9], .set7C), ([0xCB, 0xFA], .set7D), ([0xCB, 0xFB], .set7E),
    ([0xCB, 0xFC], .set7H), ([0xCB, 0xFD], .set7L), ([0xCB, 0xFE], .set7AtHl), ([0xCB, 0xFF], .set7A)
    ] : List (List Byte × Instr)).all readsAs = true := by decide +kernel

theorem test_decode_refuses_short : (decode []).toOption = none ∧ (decode [0xCB]).toOption = none ∧
    (decode [0x21, 0x34]).toOption = none ∧ (decode [0x10]).toOption = none := by decide +kernel

theorem test_decode_leaves_rest : (decode [0xC3, 0x50, 0x01, 0x00]).toOption = some (.jpA16 0x0150, [0x00]) := by
  decide +kernel

/-! ### Single instructions: the examples of the rules and the vectors of spec/95_test_vectors.md -/

/-- No register holds anything, SP at the vectors' 0xD000, pc where no test looks. -/
def zeroRegs : Regs := { a := 0, f := 0, b := 0, c := 0, d := 0, e := 0, h := 0, l := 0, sp := 0xD000, pc := 0xC803 }

/-- A small state: the reset state with nothing requested, these registers and these bytes in memory. -/
def small (r : Regs) (bytes : List (Word × Byte)) : State :=
  let s : State := { State.reset with regs := r, irq := { State.reset.irq with ifFlags := 0 } }
  bytes.foldl (fun t c => loadByte t c.1 c.2) s

/-- The state after one instruction. -/
def after (i : Instr) (s : State) : State :=
  match exec i s with
  | .next t => t
  | .fault _ => s
  | .refused _ => s

/-- R230 -/
theorem test_ld_b_c :
    let t := after .ldBC (small { zeroRegs with c := 0x22, f := 0xF0 } [])
    t.regs.b = 0x22 ∧ t.regs.c = 0x22 ∧ t.regs.f = 0xF0 := by decide +kernel

/-- R231 -/
theorem test_ld_b_d8 :
    let t := after (.ldBD8 0xAB) (small { zeroRegs with f := 0xF0 } [])
    t.regs.b = 0xAB := by decide +kernel

/-- R232 -/
theorem test_ld_a_at_hl :
    let t := after .ldAAtHl (small { zeroRegs with h := 0xC1 } [(0xC100, 0x77)])
    t.regs.a = 0x77 ∧ t.regs.hl = 0xC100 := by decide +kernel

/-- R233 -/
theorem test_ld_at_hl_h :
    let t := after .ldAtHlH (small { zeroRegs with h := 0xC1, l := 0xC1 } [])
    memRead t 0xC1C1 = 0xC1 := by decide +kernel

/-- R234 -/
theorem test_ld_at_hl_d8 :
    let t := after (.ldAtHlD8 0x5A) (small { zeroRegs with h := 0xC1 } [])
    memRead t 0xC100 = 0x5A := by decide +kernel

/-- R235 -/
theorem test_ld_a_at_de :
    let t := after .ldAAtDe (small { zeroRegs with d := 0xC3 } [(0xC300, 0x42)])
    t.regs.a = 0x42 := by decide +kernel

/-- R236 -/
theorem test_ld_at_bc_a :
    let t := after .ldAtBcA (small { zeroRegs with b := 0xC2, a := 0x11 } [])
    memRead t 0xC200 = 0x11 := by decide +kernel

/-- R237 -/
theorem test_ld_a_at_a16 :
    let t := after (.ldAAtA16 0xC434) (small zeroRegs [(0xC434, 0x66)])
    t.regs.a = 0x66 := by decide +kernel

/-- R238 -/
theorem test_ld_at_a16_a_ie :
    let t := after (.ldAtA16A 0xFFFF) (small { zeroRegs with a := 0x1F } [])
    t.irq.ie = 0x1F := by decide +kernel

/-- R239 -/
theorem test_ldh_a_at_a8 :
    let t := after (.ldhAAtA8 0x80) (small zeroRegs [(0xFF80, 0x12)])
    t.regs.a = 0x12 := by decide +kernel

/-- R240 -/
theorem test_ldh_at_a8_a :
    let t := after (.ldhAtA8A 0xFF) (small { zeroRegs with a := 0x04 } [])
    t.irq.ie = 0x04 := by decide +kernel

/-- R241 -/
theorem test_ld_a_at_c :
    let t := after .ldAAtC (small { zeroRegs with c := 0x90 } [(0xFF90, 0x56)])
    t.regs.a = 0x56 := by decide +kernel

/-- R242 -/
theorem test_ld_at_c_a :
    let t := after .ldAtCA (small { zeroRegs with c := 0x91, a := 0x78 } [])
    memRead t 0xFF91 = 0x78 := by decide +kernel

/-- R243 -/
theorem test_ld_at_hl_inc_a :
    let t := after .ldAtHlIncA (small { zeroRegs with h := 0xC0, l := 0xFF, a := 0x01 } [])
    t.regs.hl = 0xC100 ∧ memRead t 0xC0FF = 0x01 := by decide +kernel

/-- R244 -/
theorem test_ld_at_hl_dec_a :
    let t := after .ldAtHlDecA (small { zeroRegs with h := 0xC1, a := 0x02 } [])
    t.regs.hl = 0xC0FF ∧ memRead t 0xC100 = 0x02 := by decide +kernel

/-- R245 -/
theorem test_ld_a_at_hl_inc_wraps :
    let t := after .ldAAtHlInc (small { zeroRegs with h := 0xFF, l := 0xFF } [])
    t.regs.hl = 0x0000 ∧ t.regs.a = 0x00 := by decide +kernel

/-- R246 -/
theorem test_ld_a_at_hl_dec :
    let t := after .ldAAtHlDec (small { zeroRegs with h := 0xC0 } [(0xC000, 0x9A)])
    t.regs.a = 0x9A ∧ t.regs.hl = 0xBFFF := by decide +kernel

/-- R260 -/
theorem test_ld_hl_d16 :
    let t := after (.ldHlD16 0xC123) (small zeroRegs [])
    t.regs.h = 0xC1 ∧ t.regs.l = 0x23 := by decide +kernel

/-- R261 -/
theorem test_ld_at_a16_sp :
    let t := after (.ldAtA16Sp 0xC000) (small { zeroRegs with sp := 0xFFF8 } [])
    memRead t 0xC000 = 0xF8 ∧ memRead t 0xC001 = 0xFF := by decide +kernel

/-- R262 -/
theorem test_ld_sp_hl :
    let t := after .ldSpHl (small { zeroRegs with h := 0xD0, sp := 0x1234 } [])
    t.regs.sp = 0xD000 := by decide +kernel

/-- R263 -/
theorem test_ld_hl_sp_r8 :
    let t := after (.ldHlSpR8 2) (small { zeroRegs with sp := 0xFFF8, f := 0xF0 } [])
    t.regs.hl = 0xFFFA ∧ t.regs.f = 0x00 := by decide +kernel

/-- R264 -/
theorem test_push_bc :
    let t := after .pushBc (small { zeroRegs with sp := 0xFFFE, b := 0x12, c := 0x34 } [])
    memRead t 0xFFFD = 0x12 ∧ memRead t 0xFFFC = 0x34 ∧ t.regs.sp = 0xFFFC := by decide +kernel

/-- R264 -/
theorem test_push_hl_wraps :
    let t := after .pushHl (small { zeroRegs with sp := 0x0001, h := 0xAB, l := 0xCD } [])
    t.irq.ie = 0xCD ∧ t.regs.sp = 0xFFFF ∧ memRead t 0x0000 = 0x00 := by decide +kernel

/-- R265 -/
theorem test_pop_de :
    let t := after .popDe (small { zeroRegs with sp := 0xFFFC } [(0xFFFC, 0x34), (0xFFFD, 0x12)])
    t.regs.de = 0x1234 ∧ t.regs.sp = 0xFFFE := by decide +kernel

/-- R266 -/
theorem test_pop_af :
    let t := after .popAf (small { zeroRegs with sp := 0xFFFC } [(0xFFFC, 0xFF), (0xFFFD, 0x12)])
    t.regs.a = 0x12 ∧ t.regs.f = 0xF0 := by decide +kernel

/-- R280 -/
theorem test_add_b :
    let t := after .addB (small { zeroRegs with a := 0x3A, b := 0xC6 } [])
    t.regs.a = 0x00 ∧ t.regs.f = 0xB0 := by decide +kernel

/-- R281 -/
theorem test_adc_e :
    let t := after .adcE (small { zeroRegs with a := 0xE1, e := 0x0F, f := 0x10 } [])
    t.regs.a = 0xF1 ∧ t.regs.f = 0x20 := by decide +kernel

/-- R282 -/
theorem test_sub_d8 :
    let t := after (.subD8 0x0F) (small { zeroRegs with a := 0x3E } [])
    t.regs.a = 0x2F ∧ t.regs.f = 0x60 := by decide +kernel

/-- R283 -/
theorem test_sbc_a_borrows :
    let t := after .sbcA (small { zeroRegs with a := 0x42, f := 0x10 } [])
    t.regs.a = 0xFF ∧ t.regs.f = 0x70 := by decide +kernel

/-- R284 -/
theorem test_and_d8 :
    let t := after (.andD8 0x38) (small { zeroRegs with a := 0x5A } [])
    t.regs.a = 0x18 ∧ t.regs.f = 0x20 := by decide +kernel

/-- R285 -/
theorem test_xor_a :
    let t := after .xorA (small { zeroRegs with a := 0x77, f := 0xF0 } [])
    t.regs.a = 0x00 ∧ t.regs.f = 0x80 := by decide +kernel

/-- R286 -/
theorem test_or_at_hl :
    let t := after .orAtHl (small { zeroRegs with a := 0x5A, h := 0xC1 } [(0xC100, 0x03)])
    t.regs.a = 0x5B ∧ t.regs.f = 0x00 := by decide +kernel

/-- R287 -/
theorem test_cp_d8 :
    let t := after (.cpD8 0x40) (small { zeroRegs with a := 0x3C } [])
    t.regs.a = 0x3C ∧ t.regs.f = 0x50 := by decide +kernel

/-- R290 -/
theorem test_inc_a :
    let t := after .incA (small { zeroRegs with a := 0x0F, f := 0x10 } [])
    t.regs.a = 0x10 ∧ t.regs.f = 0x30 := by decide +kernel

/-- R291 -/
theorem test_inc_at_hl :
    let t := after .incAtHl (small { zeroRegs with h := 0xC0 } [(0xC000, 0xFF)])
    memRead t 0xC000 = 0x00 ∧ t.regs.f = 0xA0 := by decide +kernel

/-- R292 -/
theorem test_dec_b :
    let t := after .decB (small { zeroRegs with b := 0x10 } [])
    t.regs.b = 0x0F ∧ t.regs.f = 0x60 := by decide +kernel

/-- R293 -/
theorem test_dec_at_hl :
    let t := after .decAtHl (small { zeroRegs with h := 0xC0 } [(0xC000, 0x01)])
    memRead t 0xC000 = 0x00 ∧ t.regs.f = 0xC0 := by decide +kernel

/-- R295 -/
theorem test_cpl :
    let t := after .cpl (small { zeroRegs with a := 0x35 } [])
    t.regs.a = 0xCA ∧ t.regs.f = 0x60 := by decide +kernel

/-- R296 -/
theorem test_scf :
    let t := after .scf (small { zeroRegs with f := 0xE0 } [])
    t.regs.f = 0x90 := by decide +kernel

/-- R297 -/
theorem test_ccf :
    let t := after .ccf (small { zeroRegs with f := 0xF0 } [])
    t.regs.f = 0x80 := by decide +kernel

/-- R320 -/
theorem test_add_hl_bc :
    let t := after .addHlBc (small { zeroRegs with h := 0x8A, l := 0x23, b := 0x06, c := 0x05, f := 0x80 } [])
    t.regs.hl = 0x9028 ∧ t.regs.f = 0xA0 := by decide +kernel

/-- R321 -/
theorem test_inc_de :
    let t := after .incDe (small { zeroRegs with e := 0xFF } [])
    t.regs.de = 0x0100 := by decide +kernel

/-- R322 -/
theorem test_dec_bc :
    let t := after .decBc (small { zeroRegs with b := 0x01 } [])
    t.regs.bc = 0x00FF := by decide +kernel

/-- R323 -/
theorem test_add_sp_r8 :
    let t := after (.addSpR8 (-8)) (small { zeroRegs with sp := 0xFFF8 } [])
    t.regs.sp = 0xFFF0 ∧ t.regs.f = 0x30 := by decide +kernel

/-- R330 -/
theorem test_rlca :
    let t := after .rlca (small { zeroRegs with a := 0x85, f := 0x80 } [])
    t.regs.a = 0x0B ∧ t.regs.f = 0x10 := by decide +kernel

/-- R331 -/
theorem test_rrca :
    let t := after .rrca (small { zeroRegs with a := 0x3B } [])
    t.regs.a = 0x9D ∧ t.regs.f = 0x10 := by decide +kernel

/-- R332 -/
theorem test_rla :
    let t := after .rla (small { zeroRegs with a := 0x95, f := 0x10 } [])
    t.regs.a = 0x2B ∧ t.regs.f = 0x10 := by decide +kernel

/-- R333 -/
theorem test_rra :
    let t := after .rra (small { zeroRegs with a := 0x81 } [])
    t.regs.a = 0x40 ∧ t.regs.f = 0x10 := by decide +kernel

/-- R334 -/
theorem test_rlc_b :
    let t := after .rlcB (small { zeroRegs with b := 0x85 } [])
    t.regs.b = 0x0B ∧ t.regs.f = 0x10 := by decide +kernel

/-- R335 -/
theorem test_rrc_c :
    let t := after .rrcC (small { zeroRegs with c := 0x01 } [])
    t.regs.c = 0x80 ∧ t.regs.f = 0x10 := by decide +kernel

/-- R336 -/
theorem test_rl_at_hl :
    let t := after .rlAtHl (small { zeroRegs with h := 0xC0 } [(0xC000, 0x11)])
    memRead t 0xC000 = 0x22 ∧ t.regs.f = 0x00 := by decide +kernel

/-- R337 -/
theorem test_rr_a :
    let t := after .rrA (small { zeroRegs with a := 0x01 } [])
    t.regs.a = 0x00 ∧ t.regs.f = 0x90 := by decide +kernel

/-- R338 -/
theorem test_sla_d :
    let t := after .slaD (small { zeroRegs with d := 0x80 } [])
    t.regs.d = 0x00 ∧ t.regs.f = 0x90 := by decide +kernel

/-- R339 -/
theorem test_sra_a :
    let t := after .sraA (small { zeroRegs with a := 0x8A } [])
    t.regs.a = 0xC5 ∧ t.regs.f = 0x00 := by decide +kernel

/-- R340 -/
theorem test_swap_a :
    let t := after .swapA (small { zeroRegs with a := 0xF1 } [])
    t.regs.a = 0x1F ∧ t.regs.f = 0x00 := by decide +kernel

/-- R341 -/
theorem test_srl_a :
    let t := after .srlA (small { zeroRegs with a := 0xFF } [])
    t.regs.a = 0x7F ∧ t.regs.f = 0x10 := by decide +kernel

/-- R342 -/
theorem test_bit_4_l :
    let t := after .bit4L (small { zeroRegs with l := 0xEF } [])
    t.regs.f = 0xA0 ∧ t.regs.l = 0xEF := by decide +kernel

/-- R343 -/
theorem test_res_7_a :
    let t := after .res7A (small { zeroRegs with a := 0x80 } [])
    t.regs.a = 0x00 ∧ t.regs.f = 0x00 := by decide +kernel

/-- R344 -/
theorem test_set_7_at_hl :
    let t := after .set7AtHl (small { zeroRegs with h := 0xC0 } [(0xC000, 0x00)])
    memRead t 0xC000 = 0x80 := by decide +kernel

/-- R360 -/
theorem test_jp_a16 :
    let t := after (.jpA16 0x0150) (small zeroRegs [])
    t.regs.pc = 0x0150 := by decide +kernel

/-- R361 -/
theorem test_jp_z_taken :
    let t := after (.jpZA16 0x2000) (small { zeroRegs with f := 0x80, pc := 0x0103 } [])
    t.regs.pc = 0x2000 := by decide +kernel

/-- R361 -/
theorem test_jp_z_not_taken :
    let t := after (.jpZA16 0x2000) (small { zeroRegs with pc := 0x0103 } [])
    t.regs.pc = 0x0103 := by decide +kernel

/-- R362 -/
theorem test_jp_hl :
    let t := after .jpAtHl (small { zeroRegs with h := 0x40 } [])
    t.regs.pc = 0x4000 := by decide +kernel

/-- R363 -/
theorem test_jr_back :
    let t := after (.jrR8 (-5)) (small { zeroRegs with pc := 0x1002 } [])
    t.regs.pc = 0x0FFD := by decide +kernel

/-- R364 -/
theorem test_jr_nz_taken :
    let t := after (.jrNzR8 (-2)) (small { zeroRegs with pc := 0x1002 } [])
    t.regs.pc = 0x1000 := by decide +kernel

/-- R366 -/
theorem test_call_a16 :
    let t := after (.callA16 0x1234) (small { zeroRegs with sp := 0xFFFE, pc := 0x8003 } [])
    memRead t 0xFFFD = 0x80 ∧ memRead t 0xFFFC = 0x03 ∧ t.regs.sp = 0xFFFC ∧ t.regs.pc = 0x1234 := by decide +kernel

/-- R367 -/
theorem test_call_c_not_taken :
    let t := after (.callCA16 0x1234) (small { zeroRegs with sp := 0xFFFE, pc := 0x8003 } [])
    t.regs.sp = 0xFFFE ∧ t.regs.pc = 0x8003 := by decide +kernel

/-- R368 -/
theorem test_ret :
    let t := after .ret (small { zeroRegs with sp := 0xFFFC } [(0xFFFC, 0x03), (0xFFFD, 0x80)])
    t.regs.pc = 0x8003 ∧ t.regs.sp = 0xFFFE := by decide +kernel

/-- R369 -/
theorem test_ret_nz_not_taken :
    let t := after .retNz (small { zeroRegs with sp := 0xFFFC, f := 0x80 } [(0xFFFC, 0x03), (0xFFFD, 0x80)])
    t.regs.pc = 0xC803 ∧ t.regs.sp = 0xFFFC := by decide +kernel

/-- R370 -/
theorem test_reti :
    let t := after .reti (small { zeroRegs with sp := 0xFFFC } [(0xFFFC, 0x03), (0xFFFD, 0x80)])
    t.regs.pc = 0x8003 ∧ t.irq.ime = true := by decide +kernel

/-- R371 -/
theorem test_rst_28 :
    let t := after .rst28 (small { zeroRegs with sp := 0xFFFE, pc := 0x8001 } [])
    memRead t 0xFFFD = 0x80 ∧ memRead t 0xFFFC = 0x01 ∧ t.regs.pc = 0x0028 := by decide +kernel

/-- R384 -/
theorem test_ei :
    let t := after .ei (small zeroRegs [])
    t.irq.ime = false ∧ t.irq.pendingEnable = .zero := by decide +kernel

/-- R383 -/
theorem test_di_then_end :
    let t := after .di (small zeroRegs [])
    t.irq.pendingDisable = .zero := by decide +kernel

/-- R380 -/
theorem test_nop :
    let t := after .nop (small zeroRegs [])
    t.regs = zeroRegs ∧ t.eng.fsm = .opcode := by decide +kernel

/-- R381 -/
theorem test_halt :
    let t := after .halt (small zeroRegs [])
    t.eng.fsm = .halted ∧ t.eng.haltBugMode = false := by decide +kernel

/-- R382 -/
theorem test_stop :
    let t := after (.stop 0) (small zeroRegs [])
    t.eng.fsm = .stopped ∧ t.host.calls = [.disableLcd] := by decide +kernel

/-- R385 -/
theorem test_illegal :
    let t := after .illegalDD (small { zeroRegs with pc := 0xC000 } [])
    t.eng.faulted = some { byte := 0xDD, pc := 0xC000 } ∧ t.regs.pc = 0xC000 := by decide +kernel

/-! ### Single instructions with more than one part, and devices -/

/-- DAA after an addition and after a subtraction (R294: 0x45 + 0x38 and 0x83 - 0x38 in BCD). -/
theorem test_daa : (Alu.daa (Alu.add8 0x45 0x38 false).flags (Alu.add8 0x45 0x38 false).val).val = 0x83 ∧
    (Alu.daa (Alu.sub8 0x83 0x38 false).flags (Alu.sub8 0x83 0x38 false).val).val = 0x45 := by decide

/-- The halt bug: with IME clear and a request pending HALT does not halt (R381). -/
theorem test_halt_bug :
    let s := small zeroRegs []
    let t := after .halt { s with irq := { s.irq with ie := 1, ifFlags := 1 } }
    t.eng.fsm = .opcode ∧ t.eng.haltBugMode = true := by decide +kernel

/-- STOP with the speed switch armed on a CGB (R382). -/
theorem test_stop_switches_speed :
    let s := small zeroRegs []
    let t := after (.stop 0) { s with cfg := { s.cfg with cgb := true }, spd := { speed := .normal, prepareSwitch := true } }
    t.spd = { speed := .double, prepareSwitch := false } ∧ t.eng.fsm = .opcode ∧ memRead t 0xFF4D = 0xFE := by
  decide +kernel

/-- Vector S2 of spec/95_test_vectors.md: the tile line (R423). -/
theorem test_zip : zipLine 0b11001001 0b11110000 false = [3, 3, 2, 2, 1, 0, 0, 1] ∧
    zipLine 0b11001001 0b11110000 true = [1, 0, 0, 1, 2, 2, 3, 3] := by decide

/-- Vector S3: the 13 writes of the palette port (R447). -/
theorem test_palette_auto_increment :
    let p := [0x00, 0xAA, 0x11, 0xBB, 0x22, 0xCC, 0x33, 0xDD, 0x44, 0xEE, 0x55, 0xFF].foldl PalettePort.writeData
      ((PalettePort.reset []).writeIndex 0x80)
    [p.colour 0 0, p.colour 0 1, p.colour 0 2, p.colour 0 3, p.colour 1 0, p.colour 1 1, p.colour 1 2] =
      [0xAA00, 0xBB11, 0xCC22, 0xDD33, 0xEE44, 0xFF55, 0x0000] ∧ p.readIndex = 0xCC := by decide +kernel

/-- Writes to a freshly powered sound unit. -/
def soundAfter (writes : List (Nat × Byte)) : Apu :=
  writes.foldl (fun u w => u.write false w.1 w.2) (((Apu.reset false false).write false 0xFF26 0x00).write false 0xFF26 0x80)

/-- Vector S4: a sweep trigger with shift 0 does not recalculate (R488). -/
theorem test_sweep_shift_0 :
    (soundAfter [(0xFF12, 0xF0), (0xFF10, 0x10), (0xFF13, 0xFF), (0xFF14, 0x87)]).tick.1.readNr52 = 0xF1 := by
  decide +kernel

/-- Vector S5: a sweep trigger that overflows switches the channel off in the same tick (R488, R495). -/
theorem test_sweep_overflow :
    (soundAfter [(0xFF12, 0xF0), (0xFF10, 0x11), (0xFF13, 0xFF), (0xFF14, 0x87)]).tick.1.readNr52 = 0xF0 := by
  decide +kernel

/-- The example of R588: TIMA counts at the 16th tick and wraps at the 32nd, from which the sequence runs. -/
theorem test_timer_example :
    let t0 : Timer := { div16 := 0, tima := 0xFE, tma := 0xFE, tac := 5, prevBit := false, overflow := false
                        ticksSinceOverflow := 0 }
    let at_ (n : Nat) := (List.replicate n ()).foldl (fun t _ => (Timer.tick t).1) t0
    (at_ 15).tima = 0xFE ∧ (at_ 16).tima = 0xFF ∧ (at_ 32).tima = 0x00 ∧ (at_ 34).tick.2 = true ∧
      (at_ 35).tima = 0x00 ∧ (at_ 36).tima = 0xFE ∧ (at_ 37).overflow = false := by decide +kernel

/-- The table's numbering and the placing of a word: a CB row, a row with operand bytes, and a step of each. -/
theorem test_table_words : decodeTableWord 8 0x41 = some .ldBC ∧ decodeTableWord 16 0xCB37 = some .swapA ∧
    decodeTableWord 8 0xC3 = some (.jpA16 0) ∧ decodeTableWord 8 0xD3 = some .illegalD3 := by decide +kernel

/-- The state a step leads to. -/
def stepped (s : State) : State :=
  match step s with
  | .next t => t
  | .fault _ => s
  | .refused _ => s

/-- `SWAP A` as the first instruction after reset: A = 0x01 becomes 0x10, in two M-cycles. -/
theorem test_step_swap_a :
    let t := stepped (State.reset.withFetchWord 16 0xCB37)
    t.regs.a = 0x10 ∧ t.regs.f = 0x00 ∧ t.regs.pc = 0x0102 ∧ t.masterTicks = 8 := by decide +kernel

/-- Whether an outcome is a next state. -/
def isNext (o : Host.Outcome State Fault Refusal) : Bool :=
  match o with
  | .next _ => true
  | .fault _ => false
  | .refused _ => false

theorem next_of_isNext {o : Host.Outcome State Fault Refusal} (h : isNext o = true) : ∃ t, o = .next t := by
  cases o with
  | next t => exact ⟨t, rfl⟩
  | fault _ => exact absurd h (by simp [isNext])
  | refused _ => exact absurd h (by simp [isNext])

/-! ### Witnesses: states and operands that meet the hypotheses of each statement -/

/-- A machine about to fetch `INC A` at 0xC000, nothing requested, storage canonical. -/
def ready : State := small { zeroRegs with pc := 0xC000, a := 0x41 } [(0xC000, 0x3C)]

/-- The same with another first instruction. -/
def readyFor (bytes : List (Word × Byte)) : State := small { zeroRegs with pc := 0xC000, f := 0x80 } bytes

/-- A CGB. -/
def cgbState : State := { ready with cfg := { ready.cfg with cgb := true } }

/-- The CPU in another state, with interrupt flags. -/
def waiting (f : Fsm) (ime : Bool) (ie : Byte) (flags : BitVec 5) : State :=
  { ready with eng := { ready.eng with fsm := f }, irq := { ready.irq with ime := ime, ie := ie, ifFlags := flags } }

theorem witness_DecodeEncodeRoundTrip : (Instr.jrR8 (-128)).wf = true ∧ (Instr.jrR8 127).wf = true ∧
    (Instr.ldAtA16Sp 0xFFFF).wf = true := by decide

theorem witness_EncodeDecodeRoundTrip : (decode [0x18, 0x80]).toOption = some (.jrR8 (-128), []) := by decide +kernel

theorem witness_StepRunsFetchedInstruction : ready.Fetches ∧
    (decode (fetchedBytes (nextSlot ready))).toOption = some (.incA, [0x00, 0x00]) :=
  ⟨⟨by decide +kernel, rfl, by decide +kernel, by decide +kernel⟩, by decide +kernel⟩

theorem witness_FetchAdvancesPc : (decode (fetchedBytes ready)).toOption = some (.incA, [0x00, 0x00]) ∧
    (∀ b, form .incA ≠ .illegal b) := ⟨by decide +kernel, fun _ h => nomatch h⟩

theorem witness_FetchAdvancesPc_after_halt_bug :
    let u : State := { ready with eng := { ready.eng with haltBugMode := true } }
    (decode (fetchedBytes u)).toOption = some (.incA, [0x3C, 0x00]) := by decide +kernel

theorem witness_StuckMachineStaysStuck :
    let s : State := { ready with eng := { ready.eng with faulted := some { byte := 0xD3, pc := 0xC000 } } }
    s.eng.faulted = some { byte := 0xD3, pc := 0xC000 } := by decide +kernel

theorem witness_UndefinedOpcodeRaises : form .illegalFD = .illegal 0xFD ∧ (readyFor [(0xC000, 0xFD)]).Fetches ∧
    Decode.isUndefined (memRead (nextSlot (readyFor [(0xC000, 0xFD)])) (readyFor [(0xC000, 0xFD)]).regs.pc) = true :=
  ⟨rfl, ⟨by decide +kernel, rfl, by decide +kernel, by decide +kernel⟩, by decide +kernel⟩

theorem witness_InterruptAccepted : ([.opcode, .halted, .stopped] : List Fsm).all (fun f =>
    let s := waiting f true 0x1F 0x1F
    s.eng.faulted.isNone && !s.host.stopFlag && decide (s.eng.fsm = f) && (nextSlot s).irq.ime && (nextSlot s).irq.pending) = true := by
  decide +kernel

theorem witness_InterruptSequence :
    let s := waiting .opcode true 0x10 0x1F
    IrqCtl.select (memRead s 0xFF0F) (memRead (nextCycle s) 0xFFFF) = some .joypad := by decide +kernel

theorem witness_InterruptSequence_none :
    let s := waiting .opcode true 0x00 0x1F
    IrqCtl.select (memRead s 0xFF0F) (memRead (nextCycle s) 0xFFFF) = none := by decide +kernel

/-- The sequence of R565 from 0xC000 with SP = 0xD000: the example's shape for source 2. -/
theorem test_interrupt_sequence :
    let t := stepped (waiting .opcode true 0x04 0x04)
    t.regs.pc = 0x0050 ∧ t.regs.sp = 0xCFFE ∧ memRead t 0xCFFF = 0xC0 ∧ memRead t 0xCFFE = 0x00 ∧
      t.irq.ime = false ∧ t.irq.ifFlags = 0 ∧ t.masterTicks = 20 := by decide +kernel

theorem witness_ImeDelays :
    let q : IrqCtl := { ime := false, pendingEnable := .idle, pendingDisable := .idle, ifFlags := 0, ie := 0 }
    q.pendingEnable = .idle ∧ q.pendingDisable = .idle ∧ (q.enable true).pendingEnable ≠ .idle ∧
      (q.disable true true).pendingDisable ≠ .idle := by decide

theorem witness_WaitingCpu_halted_waits :
    let s := waiting .halted false 0x04 0x03
    s.eng.faulted = none ∧ s.host.stopFlag = false ∧ s.eng.fsm = .halted ∧ (nextSlot s).irq.pending = false := by
  decide +kernel

theorem witness_WaitingCpu_stop_flag :
    let s : State := { ready with host := { ready.host with stopFlag := true } }
    s.eng.faulted = none ∧ s.host.stopFlag = true := by decide +kernel

theorem witness_WaitingCpu_halted_wakes :
    let s := waiting .halted false 0x04 0x04
    let s' : State := { s with cfg := { s.cfg with haltWakeExtraTick := !s.cfg.haltWakeExtraTick } }
    (nextSlot s).irq.pending = true ∧ (nextSlot s).irq.ime = false ∧ (nextSlot s').irq.pending = true ∧
      (nextSlot s').irq.ime = false ∧ (s.cfg.haltWakeExtraTick ≠ s'.cfg.haltWakeExtraTick) := by decide +kernel

theorem witness_WaitingCpu_stopped :
    let s := waiting .stopped false 0x1F 0x1F
    s.eng.faulted = none ∧ s.host.stopFlag = false ∧ s.eng.fsm = .stopped ∧ ((nextSlot s).irq.ime && (nextSlot s).irq.pending) = false := by
  decide +kernel

theorem witness_MCyclePasses : ready.hdma.inProgress = false ∧ ready.eng.clockCycle = 0 := by decide +kernel

theorem witness_QuietTimeKeepsMemory : ready.NoTransfer := ⟨by decide +kernel, by decide +kernel⟩

/-- A CGB with a general HDMA transfer of one block into VRAM's last 16 bytes under way, two ticks before its copy. -/
def transferring : State :=
  { cgbState with hdma := { cgbState.hdma with inProgress := true, length := 0, src := 0xC000, dst := 0x9FF0, tick := 30 } }

theorem witness_StepIsMasterTicks : transferring.HdmaWithin ∧ transferring.eng.fsm.idle = true ∧
    transferring.eng.faulted = none ∧ ∃ t, step transferring = .next t :=
  ⟨fun _ _ => by decide +kernel, by decide +kernel, by decide +kernel, next_of_isNext (by decide +kernel)⟩

/-- The transfer ends before the instruction runs, and has copied what stands at 0xC000 (R473). -/
theorem test_hdma_block_before_instruction :
    let t := stepped transferring
    t.hdma.inProgress = false ∧ memRead t 0x9FF0 = 0x3C ∧ t.regs.a = 0x42 := by decide +kernel

/-- `CALL 0x0000` on a CGB at double speed. -/
def fastCall : State :=
  let s := readyFor [(0xC000, 0xCD)]
  { s with cfg := { s.cfg with cgb := true }, spd := { speed := .double, prepareSwitch := false }
           regs := { s.regs with sp := 0xD000 } }

theorem witness_InstructionTiming : fastCall.Fetches ∧ fastCall.KeepsBus (form (.callA16 0)) ∧
    fastCall.eng.clockCycle = 0 ∧
    (decode (fetchedBytes (nextSlot fastCall))).toOption = some (.callA16 0, []) ∧
    (∀ b, form (.callA16 0) ≠ .illegal b) ∧ ∃ t, step fastCall = .next t :=
  ⟨⟨by decide +kernel, rfl, by decide +kernel, by decide +kernel⟩, fun _ => by decide +kernel, by decide +kernel,
    by decide +kernel, fun _ h => (nomatch h), next_of_isNext (by decide +kernel)⟩

/-- R650: CALL takes 6 M-cycles, RET cc not taken 2. -/
theorem test_timing : (stepped fastCall).masterTicks = 12 ∧
    (stepped { readyFor [(0xC000, 0xC0)] with cfg := ready.cfg }).masterTicks = 8 := by decide +kernel

theorem witness_StepKeepsInvariant : ready.Inv ∧ ∃ t, step ready = .next t :=
  ⟨⟨by decide +kernel, by show _ = _; decide +kernel, by decide +kernel, .inl (by decide +kernel), fun h => nomatch h⟩,
    next_of_isNext (by decide +kernel)⟩

theorem witness_OnlyInterruptInstructionsChangeIme : ready.Fetches ∧
    (decode (fetchedBytes (nextSlot ready))).toOption = some (.incA, [0x00, 0x00]) ∧
    ready.irq.pendingEnable = .idle ∧ ready.irq.pendingDisable = .idle ∧ form .incA ≠ .ei ∧ form .incA ≠ .di ∧
    form .incA ≠ .reti ∧ ∃ t, step ready = .next t :=
  ⟨⟨by decide +kernel, rfl, by decide +kernel, by decide +kernel⟩, by decide +kernel, by decide +kernel, by decide +kernel,
    by decide, by decide, by decide, next_of_isNext (by decide +kernel)⟩

theorem witness_EveryInstructionCompletes : ∀ b, form .nop ≠ .illegal b := fun _ h => nomatch h

theorem witness_MemoryReadAfterWrite : Mem.wf ready.mem = true ∧ place ready 0xDFFF = .cell 0xDFFF ∧
    place ready 0xDFFE ≠ .cell 0xDFFF := by decide +kernel

theorem witness_MemoryCanonicalForm : Mem.wf ([(3, 1), (9, 7)] : List Host.Cell) = true := by decide

/-- A machine with its boot ROM enabled: two bytes of it are given. -/
def overlaid (cgb : Bool) : State :=
  State.resetWith { cgb := cgb, useBootRom := true, bootRom := [0x31, 0xFE], initRam := [(0x0000, 0x77), (0x0100, 0x99)] }

theorem witness_MemoryRegions_ranges : ((0xE000 : Word).toNat = 0xE000) ∧ ((0xFDFF : Word).toNat < 0xFE00) ∧
    ((0xFEA0 : Word).toNat = 0xFEA0) ∧ ((0xFEFF : Word).toNat < 0xFF00) ∧ ((0xFF7F : Word).toNat ≤ 0xFF7F) ∧
    ((0xFF80 : Word).toNat = 0xFF80) ∧ ((0xFFFE : Word).toNat < 0xFFFF) ∧ ((0x7FFF : Word).toNat < 0x8000) ∧
    ((0xA000 : Word).toNat = 0xA000) ∧ ((0xBFFF : Word).toNat < 0xC000) ∧ ready.cfg.cgb = false := by decide +kernel

theorem witness_MemoryRegions_cartridge : ready.cfg.cartridge = .flatRom ∧ ready.bootRomEnabled = false := by decide +kernel

theorem witness_MemoryRegions_overlay : (overlaid true).bootRomEnabled = true ∧
    (overlaid true).cfg.bootRom[((0x0001 : Word).toNat)]? = some 0xFE ∧ (overlaid true).cfg.cgb = true ∧
    ((0x00FF : Word).toNat < 0x100) ∧ (0x200 ≤ (0x0200 : Word).toNat) ∧ ((0x08FF : Word).toNat < 0x900) ∧
    (0x100 ≤ (0x0100 : Word).toNat) ∧ ((0x01FF : Word).toNat < 0x200) ∧ (0x900 ≤ (0x0900 : Word).toNat) ∧
    (overlaid false).cfg.cgb = false := by decide +kernel

/-- The overlay, the cartridge behind it, and its removal (R87). -/
theorem test_boot_overlay : memRead (overlaid false) 0x0000 = 0x31 ∧ memRead (overlaid false) 0x0100 = 0x99 ∧
    memRead (memWrite (overlaid false) 0xFF50 0x00) 0x0000 = 0x77 := by decide +kernel

/-- An external cartridge: what its region reads follows from its state, which a write changes as it sees fit (R96). -/
theorem test_external_cartridge :
    let s := State.resetWith { cgb := false, cartridge := .external 1 }
    let n := Config.cartridgeWrite 1 (Config.cartridgeStart 1) 0x2000 5
    memRead (memWrite s 0x2000 5) 0xA123 = Config.cartridgeRead 1 n 0xA123 := rfl

theorem witness_RamBanks : cgbState.cfg.cgb = true ∧ cgbState.cfg.ppuBlocksCpu = false ∧ ready.cfg.cgb = false ∧
    ready.cfg.ppuBlocksCpu = false ∧ ((0xD000 : Word).toNat = 0xD000) ∧ ((0xDFFF : Word).toNat < 0xE000) ∧
    ((0x8000 : Word).toNat = 0x8000) ∧ ((0x9FFF : Word).toNat < 0xA000) ∧ ((0xCFFF : Word).toNat < 0xD000) := by
  decide +kernel

/-- Bank 0 of SVBK shows bank 1; the cells of two banks differ (R90). -/
theorem test_wram_banks :
    let s := memWrite cgbState 0xFF70 0
    let t := memWrite (memWrite (memWrite s 0xD000 0x11) 0xFF70 2) 0xD000 0x22
    memRead t 0xD000 = 0x22 ∧ memRead (memWrite t 0xFF70 1) 0xD000 = 0x11 ∧
      memRead (memWrite t 0xFF70 0) 0xD000 = 0x11 := by decide +kernel

/-- A machine whose OAM is blocked by a transfer. -/
def blocked : State :=
  { ready with dma := { ready.dma with transferInProgress := true, dmaTicks := ready.cfg.dmaBlockAfter } }

theorem witness_OamBlockedDuringDma : blocked.oamBlocked = true ∧ ready.oamBlocked = false ∧
    ready.cfg.ppuBlocksCpu = false ∧ ((0xFE00 : Word).toNat = 0xFE00) ∧ ((0xFE9F : Word).toNat < 0xFEA0) := by
  decide +kernel

theorem witness_OamBlockedDuringDma_ppu :
    let s : State := { ready with cfg := { ready.cfg with ppuBlocksCpu := true } }
    let t : State := { s with ppu := { s.ppu with mode := .pixelTransfer } }
    s.cfg.ppuBlocksCpu = true ∧ s.ppu.lcdEnabled = true ∧ s.ppu.mode = .oamSearch ∧ t.ppu.lcdEnabled = true ∧
      t.ppu.mode = .pixelTransfer ∧ (0x8000 ≤ (0x8000 : Word).toNat) ∧ ((0x9FFF : Word).toNat < 0xA000) := by
  decide +kernel

theorem witness_InterruptRegisters : cgbState.cfg.cgb = true ∧ ready.cfg.cgb = false := by decide +kernel

theorem witness_OamBugFrame : ready.ppu.mode = .oamSearch ∧
    ({ ready with ppu := { ready.ppu with lcdEnabled := false } } : State).ppu.lcdEnabled = false ∧
    ((0xFDFF : Word).toNat < 0xFE00) ∧ (0xFEA0 ≤ (0xFEA0 : Word).toNat) := by decide +kernel

theorem witness_ResetState : Config.initial.useBootRom = false ∧
    ({ Config.initial with useBootRom := true } : Config).useBootRom = true ∧ Config.initial.cartridge = .flatRom ∧
    (0 : Nat) ≠ 0x143 := by decide

/-- The header's flag decides the variant: universal, CGB only, neither; a force flag overrides it (R8). -/
theorem test_header_decides : ([0x80, 0xC0, 0x00, 0x84] : List Byte).map (fun b =>
      (State.construct { cgb := false, initRam := [(0x143, b)] } none).cfg.cgb) = [true, true, false, false] ∧
    (State.construct { cgb := false, initRam := [(0x143, 0x80)] } (some .dmg)).cfg.cgb = false := by decide +kernel

theorem witness_RegisterFile : StackReg.bc ≠ .af ∧ StackReg.hl ≠ .af := by decide

theorem witness_LoadRegister : form .ldBC = .ldRR .b .c ∧ form (.ldAD8 1) = .ldRD8 .a 1 ∧
    form (.ldSpD16 0xFFFF) = .ldRrD16 .sp 0xFFFF ∧ form .ldSpHl = .ldSpHl := by decide

theorem witness_LoadFromMemory : form .ldEAtHl = .ldRHl .e ∧ form .ldAAtBc = .ldABc ∧ form .ldAAtDe = .ldADe ∧
    form (.ldAAtA16 0xFFFF) = .ldAA16 0xFFFF ∧ form (.ldhAAtA8 0xFF) = .ldhAA8 0xFF ∧ form .ldAAtC = .ldACMem := by decide

theorem witness_StoreByte : form .ldAtHlL = .ldHlR .l ∧ form (.ldAtHlD8 0) = .ldHlD8 0 ∧ form .ldAtBcA = .ldBcA ∧
    form .ldAtDeA = .ldDeA ∧ form (.ldAtA16A 0) = .ldA16A 0 ∧ form (.ldhAtA8A 0x46) = .ldhA8A 0x46 ∧
    form .ldAtCA = .ldCMemA := by decide

theorem witness_LoadStoreSteppingHl : form .ldAtHlIncA = .ldHlIncA ∧ form .ldAtHlDecA = .ldHlDecA ∧
    form .ldAAtHlInc = .ldAHlInc ∧ form .ldAAtHlDec = .ldAHlDec := by decide

theorem witness_StackPointerInstructions : form (.ldAtA16Sp 0xFFFF) = .ldA16Sp 0xFFFF ∧
    form (.ldHlSpR8 (-128)) = .ldHlSpR8 (-128) ∧ (Instr.ldHlSpR8 (-128)).wf = true ∧
    form (.addSpR8 127) = .addSpR8 127 ∧ (Instr.addSpR8 127).wf = true := by decide

theorem witness_PushPop : form .pushAf = .push .af ∧ form .popAf = .pop .af ∧ form .popHl = .pop .hl := by decide

theorem witness_AluOperands : form .sbcL = .aluR .sbc .l ∧ form (.cpD8 0) = .aluD8 .cp 0 ∧ form .xorAtHl = .aluHl .xor := by
  decide

theorem witness_IncrementDecrement : form .incL = .incR .l ∧ form .decA = .decR .a ∧ form .incAtHl = .incHlMem ∧
    form .decAtHl = .decHlMem := by decide

theorem witness_AccumulatorOperations : form .daa = .daa ∧ form .cpl = .cpl ∧ form .scf = .scf ∧ form .ccf = .ccf ∧
    form .rlca = .rlca ∧ form .rrca = .rrca ∧ form .rla = .rla ∧ form .rra = .rra ∧ (Flags.unpack 0x30).n = false ∧
    (Flags.unpack 0x40).n = true := by decide

theorem witness_DaaAdjustsBcd : (99 : Nat) < 100 := by decide

theorem witness_WordArithmetic : form .addHlSp = .addHlRr .sp ∧ form .incSp = .incRr .sp ∧ form .decHl = .decRr .hl := by
  decide

theorem witness_RotateShift : form .srlH = .shiftR .srl .h ∧ form .swapAtHl = .shiftHl .swap := by decide

theorem witness_BitOperations : form .bit7A = .bitR 7 .a ∧ form .bit0AtHl = .bitHl 0 ∧ form .res3B = .resR 3 .b ∧
    form .set4L = .setR 4 .l ∧ form .res7AtHl = .resHl 7 ∧ form .set7AtHl = .setHl 7 := by decide

theorem witness_Jumps : form (.jpA16 0) = .jp 0 ∧ form .jpAtHl = .jpHl ∧ form (.jrR8 (-128)) = .jr (-128) ∧
    (Instr.jrR8 (-128)).wf = true ∧ form (.jpNcA16 1) = .jpCc .nc 1 ∧ form (.jrCR8 127) = .jrCc .c 127 ∧
    (Instr.jrCR8 127).wf = true ∧ (Flags.unpack 0x10).holds .c = true ∧ (Flags.unpack 0x10).holds .nc = false := by decide

theorem witness_CallsAndRestarts : form (.callA16 0) = .call 0 ∧ form (.callNzA16 1) = .callCc .nz 1 ∧
    form .rst38 = .rst 7 ∧ (Flags.unpack 0x80).holds .nz = false ∧ (Flags.unpack 0x00).holds .nz = true := by decide

theorem witness_Returns : form .ret = .ret ∧ form .retZ = .retCc .z ∧ form .reti = .reti ∧
    (Flags.unpack 0x80).holds .z = true ∧ (Flags.unpack 0x00).holds .z = false := by decide

theorem witness_NopDiEi : form .nop = .nop ∧ form .di = .di ∧ form .ei = .ei := by decide

theorem witness_HaltAndStop : form .halt = .halt ∧ form (.stop 0) = .stop 0 ∧ ¬ (ready.cfg.cgb = true) ∧
    ({ cgbState with spd := { speed := .normal, prepareSwitch := true } } : State).spd.prepareSwitch = true := by
  decide +kernel

/-- A timer in the overflow sequence. -/
def overflowing (n : Nat) : Timer :=
  { div16 := 0, tima := 0, tma := 0x77, tac := 5, prevBit := false, overflow := true, ticksSinceOverflow := n }

/-- The conditions of the clauses: a falling edge and none, an overflow in the tick and none, and each count at which
something happens. -/
theorem witness_TimerOverflow : ({ overflowing 0 with tima := 0xFF } : Timer).tima = 0xFF ∧ (overflowing 0).tima ≠ 0xFF ∧
    ({ overflowing 0 with overflow := false } : Timer).overflow = false ∧ (overflowing 0).overflow = true ∧
    ([3, 4, 5] : List Nat).map (fun n => (overflowing n).ticksSinceOverflow) = [3, 4, 5] ∧
    (let t : Timer := { overflowing 0 with overflow := false, prevBit := true, tima := 0xFF }
     (t.tac.getLsbD 2 && (t.div16 + 1).getLsbD 3) = false ∧ t.incTima.overflow = true) := by decide

theorem witness_TimerRegisters : (overflowing 4).ticksSinceOverflow < 5 ∧ 5 ≤ (overflowing 5).ticksSinceOverflow ∧
    ({ overflowing 0 with prevBit := true } : Timer).prevBit = true := by decide

theorem witness_OamDmaCopies :
    let s : State := { blocked with dma := { blocked.dma with dmaTicks := 647 } }
    s.dma.transferInProgress = true ∧ s.dmaLimit ≤ s.dma.dmaTicks + 1 ∧ Mem.wf s.mem = true ∧
      blocked.dma.dmaTicks + 1 < blocked.dmaLimit ∧ ready.dma.transferInProgress = false := by decide +kernel

theorem witness_HdmaTransfers :
    let h := (Hdma.reset true).start 0x80
    (Hdma.reset true).inProgress = false ∧ h.inProgress = true ∧ (0x7F : Byte).getLsbD 7 = false ∧ h.length = 0 ∧
      ((Hdma.reset true).start 0x01).length ≠ 0 := by decide

theorem witness_HdmaTransfers_copy :
    let s : State := { transferring with hdma := { transferring.hdma with tick := 31 } }
    transferring.hdma.tick + 1 < transferring.cfg.hdmaBlockTicks ∧ Mem.wf s.mem = true ∧
      s.cfg.hdmaBlockTicks ≤ s.hdma.tick + 1 ∧ 0x8000 ≤ s.hdma.dst.toNat ∧ s.hdma.dst.toNat + 16 ≤ 0xA000 ∧
      (List.range 16).all (fun j => decide (0xA000 ≤ (s.hdma.src + BitVec.ofNat 16 j).toNat)) = true ∧
      0xC000 ≠ s.vramKey (s.hdma.dst.toNat + 15) := by decide +kernel

theorem witness_HdmaTransfers_beyond :
    let s : State := { transferring with hdma := { transferring.hdma with tick := 31, dst := 0xA000 } }
    s.cfg.hdmaBlockTicks ≤ s.hdma.tick + 1 ∧ 0xA000 ≤ s.hdma.dst.toNat ∧ s.hdma.dst.toNat + 16 ≤ 0xC000 ∧
      s.cfg.cartridge = .flatRom ∧ ready.cfg.cgb = false := by decide +kernel

theorem witness_LcdRegisters : (0xFF4B : Word) ∈
      ([0xFF42, 0xFF43, 0xFF45, 0xFF47, 0xFF48, 0xFF49, 0xFF4A, 0xFF4B] : List Word) ∧ cgbState.cfg.cgb = true ∧
    ((PalettePort.reset []).writeIndex 0x3F).bytes[((PalettePort.reset []).writeIndex 0x3F).palIndex.toNat]? = some 0x00 := by
  decide +kernel

theorem witness_LcdRegisters_switch :
    let off := ready.ppu.disableLcd 250
    (0x11 : Byte).getLsbD 7 = false ∧ (0x91 : Byte).getLsbD 7 = true ∧ off.lcdEnabled = false ∧ off.lcdEnabledDelay = -1 ∧
      ({ off with lcdEnabledDelay := 244 } : Ppu).lcdEnabledDelay ≠ -1 ∧
      ({ off with lcdEnabledDelay := 1 } : Ppu).lcdEnabledDelay = 1 := by decide +kernel

theorem witness_PpuLineEnds :
    let p : Ppu := { ready.ppu with mode := .hblank, ly := 143 }
    let q : Ppu := { ready.ppu with mode := .vblank, ly := 153, ticksInLine := 3, vblankTicks := 3 }
    p.mode = .hblank ∧ p.ly = 143 ∧ ({ p with ly := 142 } : Ppu).ly ≠ 143 ∧ q.lcdEnabled = true ∧ q.mode = .vblank ∧
      q.ly = 153 ∧ q.ticksInLine = 3 ∧ q.vblankTicks < 455 ∧ ({ q with ly := 0 } : Ppu).ly = 0 ∧ q.ly ≠ 0 ∧
      ({ q with vblankTicks := 455 } : Ppu).vblankTicks = 455 ∧ ({ p with hblankTicks := 454 } : Ppu).hblankTicks < 455 ∧
      ({ p with hblankTicks := 455 } : Ppu).hblankTicks = 455 ∧
      ({ p with mode := .pixelTransfer } : Ppu).mode = .pixelTransfer ∧ ready.ppu.mode = .oamSearch := by decide +kernel

theorem witness_JoypadAndSerial :
    let s : State := { ready with host := { ready.host with events := [(0, .press .start), (3, .release .start)] } }
    s.host.events = (0, .press .start) :: [(3, .release .start)] ∧ (3 : Nat) ≠ 0 ∧ (0x81 : Byte).getLsbD 7 = true ∧
      ({ sb := 0, sc := 0x81, busy := true, div := 511 } : Serial).busy = true ∧ 512 ≤ 511 + 1 ∧ 510 + 1 < 512 := by
  decide +kernel

theorem witness_JoypadAndSerial_stop :
    let s : State := { ready with host := { ready.host with events := [(0, .stop)] } }
    s.host.events = (0, .stop) :: [] := by decide +kernel

/-- The host sees the byte sent, and the peer's answer stands in SB (R557). -/
theorem test_serial_transfer :
    let s : State := { ready with serial := { sb := 0x42, sc := 0x81, busy := true, div := 511 } }
    (serialTick s).host.calls = [.transfer 0x42] ∧ (serialTick s).serial.sb = 0xFF ∧ (serialTick s).serial.sc = 0x01 ∧
      bitAt (serialTick s).irq.readIf 3 = true := by decide +kernel

/-- A machine whose host sets the stop flag some master ticks on. -/
def stopping (n : Nat) : State := { ready with host := { ready.host with events := [(n, .stop)] } }

/-- A stop event ends the step with its own master tick: before the instruction at its fourth tick, or after it (R15). -/
theorem test_stop_flag :
    (stepped (stopping 2)).regs.a = 0x41 ∧ (stepped (stopping 2)).masterTicks = 3 ∧
    (stepped (stopping 3)).regs.a = 0x42 ∧ (stepped (stopping 3)).host.stopFlag = true ∧
    stepped (stepped (stopping 2)) = stepped (stopping 2) := by decide +kernel

/-- ... or in the middle of one: `LD A,d8` with the opcode fetched and the operand not. -/
theorem test_stop_flag_inside :
    let s := readyFor [(0xC000, 0x3E), (0xC001, 0x99)]
    let t := stepped { s with host := { s.host with events := [(5, .stop)] } }
    t.masterTicks = 6 ∧ t.regs.pc = 0xC001 ∧ t.regs.a = 0x00 ∧ t.eng.fsm = .operand := by decide +kernel

theorem witness_WaitingCpu_stop_in_step : (stopping 2).HdmaWithin ∧ (stopping 2).eng.fsm.idle = true ∧
    (stopping 2).host.stopFlag = false ∧ ∃ t, step (stopping 2) = .next t ∧ t.host.stopFlag = true :=
  ⟨fun h => (nomatch h), by decide +kernel, by decide +kernel, by
    obtain ⟨t, h⟩ := next_of_isNext (o := step (stopping 2)) (by decide +kernel)
    have hs : (stepped (stopping 2)).host.stopFlag = true := by decide +kernel
    exact ⟨t, h, by rw [stepped, h] at hs; exact hs⟩⟩

/-- The whole step of a machine whose host does not stop it leaves the flag clear (the premise of InstructionTiming and
OnlyInterruptInstructionsChangeIme). -/
theorem witness_step_not_stopped : (stepped fastCall).host.stopFlag = false ∧ (stepped ready).host.stopFlag = false := by
  decide +kernel

/-- The sound unit with channel 3 playing: the byte last read is number 5. -/
def playing (cgb : Bool) (since : Nat) : State :=
  let s : State := { ready with cfg := { ready.cfg with cgb := cgb } }
  { s with apu := { s.apu with ch3 := { s.apu.ch3 with
      ch := { s.apu.ch3.ch with channelEnabled := true, dacEnabled := true }, lastRead := some 5, ticksSinceRead := since
      freqDivider := 2, wi := 31 } } }

/-- The devices' requests arrive in IF: the timer's, the serial port's, and the PPU's at the end of line 143. -/
theorem test_requests :
    let t : State := { ready with timer := overflowing 3 }
    let p : State := { ready with serial := { sb := 0, sc := 0x81, busy := true, div := 511 } }
    let v : State := { ready with ppu := { ready.ppu with mode := .hblank, ly := 143, hblankTicks := 455, statEn := 0b0010 } }
    (timerTick t).irq.ifFlags = 0b00100 ∧ (serialTick p).irq.ifFlags = 0b01000 ∧ (ppuTick v).irq.ifFlags = 0b00011 := by
  decide +kernel

theorem witness_SoundUnit_registers : (0x7F : Byte).getLsbD 7 = false ∧ ready.apu.enabled = true ∧
    (0x80 : Byte).getLsbD 7 = ready.apu.enabled ∧ (0x80 : Byte).getLsbD 7 = true ∧ ready.apu.powerOff.enabled = false ∧
    ((0xFF25, 0x00) : Nat × Byte) ∈ [(0xFF25, 0x00)] := by decide +kernel

theorem witness_SoundUnit_length :
    let l : LengthCounter := { full := 64, length := 0, li := 8191, lengthEnabled := false }
    ({ l with li := 16383 } : LengthCounter).li + 1 = 16384 ∧ l.li + 1 ≠ 16384 ∧ l.lengthEnabled = false ∧
      (0x40 : Byte).getLsbD 6 = true ∧ l.li < 8192 ∧ (0x40 : Byte).getLsbD 7 = false ∧ (0xC0 : Byte).getLsbD 7 = true ∧
      l.length = 0 ∧ 1 < l.full ∧ ({ l with length := 1 } : LengthCounter).length ≤ 1 ∧
      ({ l with lengthEnabled := true } : LengthCounter).lengthEnabled = true ∧ (0x80 : Byte).getLsbD 6 = false ∧
      8192 ≤ ({ l with li := 8192 } : LengthCounter).li ∧ (0xC0 : Byte).getLsbD 6 = true ∧
      ({ l with length := 1 } : LengthCounter).length ≠ 0 := by decide

/-- A trigger that steps the last count to 0 in the first half leaves one less than a full count (R486). -/
theorem test_length_trigger :
    ({ full := 64, length := 1, li := 0, lengthEnabled := false } : LengthCounter).writeNr4 0xC0 =
      { full := 64, length := 63, li := 0, lengthEnabled := true } := by decide

theorem witness_SoundUnit_envelope :
    let e : Envelope := { initialVolume := 15, up := true, period := 7, volume := 15, ei := 458751, finished := false }
    ({ e with finished := true } : Envelope).finished = true ∧ e.finished = false ∧ (e.volume = 15 ∧ e.up = true) ∧
      ({ e with volume := 14 } : Envelope).volume ≠ 15 ∧ ({ e with volume := 14 } : Envelope).volume ≠ 0 ∧
      e.ei + 1 = e.period * 65536 := by decide

theorem witness_SoundUnit_sweep :
    let w : Sweep := { sPeriod := 1, negate := false, shift := 1, timer := 1, shadowFreq := 2047, nr13 := 0xFF, nr14 := 7
                       si := 32767, overflow := false, counterEnabled := true, negging := true }
    ({ w with shift := 0 } : Sweep).shift = 0 ∧ 0 < w.shift ∧ w.negate = false ∧ w.negging = true ∧
      (0x00 : Byte).getLsbD 3 = false ∧ w.tick.overflow = true ∧ ({ w with si := 0 } : Sweep).si + 1 ≠ 32768 ∧
      w.si + 1 = 32768 ∧ ({ w with counterEnabled := false } : Sweep).counterEnabled = false ∧ w.counterEnabled = true ∧
      ({ w with timer := 2 } : Sweep).timer ≠ 1 ∧ w.timer = 1 ∧ 0 < w.sPeriod ∧ w.overflow = false ∧
      2047 < w.shadowFreq + w.shadowFreq / 2 ^ w.shift ∧ 1365 + 1365 / 2 ^ w.shift ≤ 2047 := by decide

/-- A channel that is on, its length not counting. -/
def sounding (full : Nat) : Channel :=
  { nr0 := 0x80, nr1 := 0xFF, nr2 := 0xFF, nr3 := 0xFF, nr4 := 0xFF, channelEnabled := true, dacEnabled := true
    len := { full := full, length := 1, li := 0, lengthEnabled := false } }

theorem witness_SoundUnit_generators :
    let p : Pulse := { Apu.coldPulse with ch := sounding 64, freqDivider := 1, di := 7 }
    let c : Wave := { (playing false 1).apu.ch3 with ch := sounding 256, freqDivider := 1, triggered := false }
    let n : Noise := { ready.apu.ch4 with ch := sounding 64, pi := 1 }
    ({ p.ch.updateLength with channelEnabled := p.ch.updateLength.channelEnabled && !Apu.coldSweep.tick.overflow } :
        Channel).isEnabled = true ∧
    p.ch.updateLength.isEnabled = true ∧ p.freqDivider = 1 ∧ Apu.coldPulse.ch.updateLength.isEnabled = false ∧
      Apu.coldPulse.freqDivider ≠ 1 ∧ (3 : Nat) < 4 ∧ p.di < 8 ∧
      (c.ch.updateLength.channelEnabled && c.ch.updateLength.dacEnabled && c.ch.nr0.getLsbD 7) = true ∧
      c.freqDivider = 1 ∧ c.triggered = false ∧ ready.apu.waveRam[c.wi / 2]? = some 0xDA ∧
      ({ c with triggered := true } : Wave).triggered = true ∧ ({ c with freqDivider := 2 } : Wave).freqDivider ≠ 1 ∧
      ready.apu.ch3.ch.updateLength.channelEnabled = false ∧ n.ch.updateLength.isEnabled = true ∧ n.pi = 1 ∧
      ({ n with pi := 2 } : Noise).pi ≠ 1 ∧ ready.apu.ch4.ch.updateLength.isEnabled = false ∧ ready.apu.enabled = true := by
  decide +kernel

theorem witness_SoundUnit_wave :
    (0 : Nat) < 16 ∧ ready.apu.waveRam.length = 16 ∧ ready.apu.ch3.ch.isEnabled = false ∧ (15 : Nat) < 16 ∧
    (playing false 1).apu.ch3.ch.isEnabled = true ∧ (playing false 1).apu.ch3.lastRead = some 5 ∧
    (playing false 1).apu.waveRam[5]? = some 0x78 ∧ (playing true 2).cfg.cgb = true ∧
    (playing false 1).apu.ch3.ticksSinceRead < 2 ∧ (playing false 2).cfg.cgb = false ∧
    2 ≤ (playing false 2).apu.ch3.ticksSinceRead ∧ (playing false 2).apu.ch3.wi < 32 ∧
    4 ≤ (playing false 2).apu.ch3.wi / 2 ∧ (7 : Nat) / 2 < 4 ∧ (playing false 2).apu.ch3.freqDivider = 2 ∧ (14 : Nat) < 15 := by
  decide +kernel

theorem witness_TileLinePixels : (7 : Nat) < 8 := by decide

end Sys2Proof.Machine
end

/-! ## The register file, the storage and the devices: the statements of the family 10_state -/

/-! ### The pixel FIFO keeps to its sixteen slots (48_ppu R430) -/

namespace Sys2Proof.Machine.Ppu

/-- The FIFO within its sixteen slots. -/
def FifoFits (p : Ppu) : Prop := p.fifo.length ≤ 16

theorem length_overlayFifo (mp : Bool) (attr : Byte) (k : Nat) (ps : List (BitVec 2)) (ss : List Slot) :
    (overlayFifo mp attr k ps ss).length = ss.length := by
  induction ss generalizing ps with
  | nil => cases ps <;> rfl
  | cons s ss ih =>
    cases ps with
    | nil => rfl
    | cons p ps => simp [overlayFifo, ih]

theorem length_ofLine (cgb : Bool) (line : List (BitVec 2)) (attr : Byte) :
    (Slot.ofLine cgb line attr).length = line.length := by simp [Slot.ofLine]

theorem length_zipLine (d1 d2 : Byte) (reverse : Bool) : (zipLine d1 d2 reverse).length = 8 := by
  cases reverse <;> rfl

section
variable {p : Ppu} (h : p.FifoFits)
include h

/-- The two states of the fetcher that touch the FIFO: PUSH adds eight pixels to at most eight, and the overlay of a
sprite keeps the number of slots. -/
theorem FifoFits.fetchStep (e : PpuEnv) : (p.fetchStep e).FifoFits := by
  unfold FifoFits at h
  unfold Ppu.fetchStep FifoFits
  dsimp only
  cases p.fetcher.fstate with
  | push =>
    dsimp only
    split
    · simp only [List.length_append, length_ofLine, length_zipLine]; omega
    · exact h
  | pushSprite => exact (length_overlayFifo _ _ _ _ _).trans_le h
  | readTileId => exact h
  | readData1 => exact h
  | readData2 => exact h
  | readSpriteTileId => exact h
  | readSpriteFlags => exact h
  | readSpriteData1 => exact h
  | readSpriteData2 => exact h

theorem FifoFits.fetcherTick (e : PpuEnv) : (p.fetcherTick e).FifoFits := by
  unfold Ppu.fetcherTick
  split
  · split
    · simp only [FifoFits, List.length_append, length_ofLine, List.length_cons, List.length_nil]; omega
    · exact h
  · split
    · exact h
    · exact FifoFits.fetchStep (p := { p with fetcher := { p.fetcher with divider := .two } }) h e

theorem FifoFits.putPixel (e : PpuEnv) : (p.putPixel e).1.FifoFits := by
  unfold FifoFits at h
  unfold Ppu.putPixel FifoFits
  split
  · next s rest hf =>
    rw [hf, List.length_cons] at h
    show rest.length ≤ 16
    omega
  · exact h

theorem FifoFits.spritesAndPixel (e : PpuEnv) : (p.spritesAndPixel e).ppu.FifoFits := by
  have hout := h.putPixel e
  unfold Ppu.spritesAndPixel
  split
  · split
    · exact h
    · split
      · exact h
      · exact hout
  · exact hout

theorem FifoFits.transferTick (e : PpuEnv) : (p.transferTick e).ppu.FifoFits := by
  have ht := h.fetcherTick e
  unfold Ppu.transferTick
  dsimp only
  split
  · split
    · exact ht
    · split
      · exact (List.drop_sublist 1 _).length_le.trans ht
      · split
        · exact Nat.zero_le 16
        · exact ht.spritesAndPixel e
  · exact ht.spritesAndPixel e

theorem FifoFits.phaseTick (e : PpuEnv) : (p.phaseTick e).ppu.FifoFits := by
  unfold Ppu.phaseTick
  cases p.mode with
  | oamSearch => simp only [Ppu.searchTick]; cases p.search.sub <;> exact h
  | pixelTransfer => exact h.transferTick e
  | hblank => exact h
  | vblank => exact h

/-- A mode change leaves the FIFO as it is or clears it. -/
theorem FifoFits.nextPhase (cgb : Bool) : (p.nextPhase cgb).1.FifoFits := by
  unfold Ppu.nextPhase
  cases p.mode with
  | oamSearch =>
    simp only [Ppu.startPixelTransfer]
    split
    · exact Nat.zero_le 16
    · exact h
  | pixelTransfer => exact h
  | hblank => simp only; split <;> exact h
  | vblank => simp only; split <;> exact h

theorem FifoFits.enabledTick (e : PpuEnv) (calls : List HostCall) : (p.enabledTick e calls).ppu.FifoFits := by
  have hp := FifoFits.phaseTick (p := { p with ticksInLine := p.ticksInLine + 1 }) h e
  unfold Ppu.enabledTick
  simp only
  split
  · split <;> exact hp
  · exact hp.nextPhase e.cgb

theorem FifoFits.tick (e : PpuEnv) : (p.tick e).ppu.FifoFits := by
  unfold Ppu.tick
  split
  · exact h.enabledTick e []
  · split
    · exact h
    · split
      · exact FifoFits.enabledTick (p := { p with lcdEnabledDelay := 0, lcdEnabled := true }) h e _
      · exact h

end

/-- No write to a register of the PPU reaches the FIFO. -/
@[simp] theorem write_fifo (c : Config) (p : Ppu) (n : Nat) (v : Byte) : (p.write c n v).fifo = p.fifo := by
  have hl : (p.writeLcdc c v).fifo = p.fifo := by unfold Ppu.writeLcdc; split <;> rfl
  unfold Ppu.write
  simp only [apply_ite Ppu.fifo, hl, ite_self]

end Sys2Proof.Machine.Ppu

/-! ### The window of an HDMA transfer (49_dma_apu R471, R473) -/

namespace Sys2Proof.Machine

/-- A transfer starts on a 16-byte boundary of VRAM. -/
theorem Hdma.start_dst (h : Hdma) (v : Byte) :
    0x8000 ≤ (h.start v).dst.toNat ∧ (h.start v).dst.toNat ≤ 0x9FF0 := by
  have hmask : (h.start v).dst &&& 0x9FF0 = (h.start v).dst := by
    simp only [Hdma.start, joinBytes]
    ext i hi
    simp only [BitVec.getElem_and, BitVec.getElem_or, BitVec.getElem_append]
    interval_cases i <;> simp
  constructor
  · show 0x8000 ≤ (_ ||| 0x8000#16).toNat
    rw [BitVec.toNat_or]
    exact Nat.right_le_or
  · rw [← hmask, BitVec.toNat_and]
    exact Nat.and_le_right

/-- What a write to a device register can do to the HDMA engine: leave the transfer's window and activity alone, end
the transfer, or start one. -/
theorem Hdma.write_cases (h : Hdma) (n : Nat) (v : Byte) :
    ((h.write n v).inProgress = h.inProgress ∧ (h.write n v).dst = h.dst ∧ (h.write n v).length = h.length) ∨
    (h.write n v).inProgress = false ∨ h.write n v = h.start v := by
  unfold Hdma.write
  iterate 4
    split
    · exact .inl ⟨rfl, rfl, rfl⟩
  split
  · split
    · exact .inr (.inl rfl)
    · exact .inr (.inr rfl)
  · exact .inl ⟨rfl, rfl, rfl⟩

theorem HdmaWithin_writeDevice {s : State} (h : s.HdmaWithin) (n : Nat) (v : Byte) :
    (writeDevice s n v).HdmaWithin := by
  intro hc hp
  rw [writeDevice_hdma] at hp ⊢
  rcases s.hdma.write_cases n v with ⟨hi, hd, hl⟩ | hi | hs
  · rw [hd, hl]
    exact h hc (hi ▸ hp)
  · rw [hi] at hp
    cases hp
  · obtain ⟨h1, h2⟩ := s.hdma.start_dst v
    have hl := (s.hdma.start v).length.isLt
    rw [hs]
    omega

theorem HdmaWithin_writeAt {s : State} (h : s.HdmaWithin) (p : Place) (v : Byte) : (writeAt s p v).HdmaWithin := by
  cases p with
  | cell k => exact h
  | cart n => exact h
  | boot n => exact h
  | device n => exact HdmaWithin_writeDevice h n v
  | void => exact h

theorem writeAt_fifo (s : State) (p : Place) (v : Byte) : (writeAt s p v).ppu.fifo = s.ppu.fifo := by
  cases p with
  | cell k => rfl
  | cart n => rfl
  | boot n => rfl
  | device n => exact Ppu.write_fifo s.cfg s.ppu n v
  | void => rfl

/-! ### The low nibble of F (10_state R24) -/

theorem Flags.pack_low (g : Flags) : g.pack &&& 0x0F = 0 := by
  obtain ⟨z, n, h, c⟩ := g
  revert z n h c
  decide

theorem Regs.FlagsClean_setFlags (r : Regs) (g : Flags) : (r.setFlags g).FlagsClean := g.pack_low

theorem Regs.FlagsClean_setAf (r : Regs) (v : Word) : (r.setAf v).FlagsClean := by
  show loByte v &&& 0xF0 &&& 0x0F = 0
  rw [BitVec.and_assoc]
  exact BitVec.and_zero

@[simp] theorem Regs.set8_f (r : Regs) (x : Reg8) (v : Byte) : (r.set8 x v).f = r.f := by cases x <;> rfl

/-- A register written by name: AF masks its low nibble, the others leave F alone. -/
theorem Regs.FlagsClean_store {r : Regs} (h : r.FlagsClean) (x : RegName) (v : Word) : (r.store x v).FlagsClean := by
  cases x with
  | r8 y =>
    show (r.set8 y (loByte v)).f &&& 0x0F = 0
    rw [Regs.set8_f]
    exact h
  | r16 y => cases y <;> exact h
  | stk y =>
    cases y with
    | bc => exact h
    | de => exact h
    | hl => exact h
    | af => exact r.FlagsClean_setAf v
  | pc => exact h

/-! ### The clock of the host's events (00_scope R15)

The events still to come, the stop flag and the count of master ticks change in the first part of a master tick only,
and by themselves. So a whole step and the same number of single master ticks meet the same stop event. -/

/-- What decides when the host's stop flag is set. -/
structure Clock where
  events : List (Nat × HostEvent)
  stopFlag : Bool
  masterTicks : Nat

/-- The clock of a state. -/
def State.clock (s : State) : Clock :=
  { events := s.host.events, stopFlag := s.host.stopFlag, masterTicks := s.masterTicks }

/-- One master tick of the clock. What is due is the same whatever the joypad holds (`deliver_joypad`). -/
def Clock.tick (c : Clock) : Clock :=
  let r := deliver c.events { p1sel := 0, pressed := .none }
  { events := r.rest, stopFlag := c.stopFlag || r.stops, masterTicks := c.masterTicks + 1 }

theorem deliver_joypad (es : List (Nat × HostEvent)) (j j' : Joypad) :
    (deliver es j).rest = (deliver es j').rest ∧ (deliver es j).stops = (deliver es j').stops := by
  induction es generalizing j j' with
  | nil => exact ⟨rfl, rfl⟩
  | cons x es ih =>
    obtain ⟨n, e⟩ := x
    cases n with
    | zero =>
      obtain ⟨hr, hs⟩ := ih (j.apply e) (j'.apply e)
      exact ⟨hr, congrArg (e.stops || ·) hs⟩
    | succ n => exact ⟨rfl, rfl⟩

theorem clock_preCpu (s : State) : (preCpu s).clock = s.clock.tick := by
  obtain ⟨hr, hs⟩ := deliver_joypad s.host.events s.joypad { p1sel := 0, pressed := .none }
  simp only [State.clock, Clock.tick, preCpu, timerTick_host, timerTick_masterTicks, applyEvents_host,
    applyEvents_masterTicks, hr, hs]

theorem masterTicks_iterate_tick (n : Nat) (c : Clock) : (Clock.tick^[n] c).masterTicks = c.masterTicks + n := by
  induction n generalizing c with
  | zero => rfl
  | succ n ih =>
    rw [Function.iterate_succ_apply, ih]
    show c.masterTicks + 1 + n = _
    omega

/-! ### What every operation keeps -/

/-- The invariant but for the engine's boundary: it holds in the middle of a step too. -/
structure State.Sound (s : State) : Prop where
  mem : Mem.wf s.mem = true
  flags : s.regs.FlagsClean
  fifo : s.ppu.FifoFits
  hdma : s.HdmaWithin

theorem State.Inv.sound {s : State} (h : s.Inv) : s.Sound := ⟨h.mem, h.flags, h.fifo, h.hdma⟩

theorem State.Sound.inv {s : State} (h : s.Sound) (hb : s.AtBoundary) : s.Inv := ⟨h.mem, h.flags, h.fifo, hb, h.hdma⟩

/-- From `s` to `t` pass `n` master ticks of the clock, and `t` is sound if `s` was. -/
structure Keeps (n : Nat) (s t : State) : Prop where
  clock : t.clock = Clock.tick^[n] s.clock
  sound : s.Sound → t.Sound

/-- Some number of master ticks pass from `s` to `t`, and `t` is sound if `s` was. -/
def Reaches (s t : State) : Prop := ∃ n, Keeps n s t

/-- The parts of a state that soundness and the clock look at. -/
structure Vital where
  clock : Clock
  cgb : Bool
  mem : List Host.Cell
  f : Byte
  fifo : List Slot
  hdma : Hdma

/-- Those parts of a state. -/
def State.vital (s : State) : Vital :=
  { clock := s.clock, cgb := s.cfg.cgb, mem := s.mem, f := s.regs.f, fifo := s.ppu.fifo, hdma := s.hdma }

namespace Keeps

theorem refl (s : State) : Keeps 0 s s := ⟨rfl, id⟩

theorem trans {n m : Nat} {s t u : State} (h : Keeps n s t) (h' : Keeps m t u) : Keeps (m + n) s u :=
  ⟨by rw [h'.clock, h.clock, Function.iterate_add_apply], h'.sound ∘ h.sound⟩

theorem reaches {n : Nat} {s t : State} (h : Keeps n s t) : Reaches s t := ⟨n, h⟩

/-- An update of anything else keeps everything. -/
theorem of_vital {s t : State} (h : t.vital = s.vital) : Keeps 0 s t := by
  simp only [State.vital, Vital.mk.injEq] at h
  obtain ⟨hc, hcgb, hm, hf, hq, hh⟩ := h
  refine ⟨hc, fun hs => ⟨hm ▸ hs.mem, ?_, ?_, ?_⟩⟩
  · exact (congrArg (· &&& 0x0F) hf).trans hs.flags
  · exact (congrArg List.length hq).trans_le hs.fifo
  · unfold State.HdmaWithin
    rw [hcgb, hh]
    exact hs.hdma

end Keeps

theorem Reaches.of_vital {s t : State} (h : t.vital = s.vital) : Reaches s t := (Keeps.of_vital h).reaches

theorem Reaches.trans {s t u : State} (h : Reaches s t) (h' : Reaches t u) : Reaches s u := by
  obtain ⟨n, h⟩ := h
  obtain ⟨m, h'⟩ := h'
  exact (h.trans h').reaches

/-! ### Operations of the CPU -/

section
variable (s : State)

theorem keeps_writeAt (p : Place) (v : Byte) : Keeps 0 s (writeAt s p v) where
  clock := by cases p <;> rfl
  sound h := ⟨writeAt_wf s p v h.mem, (writeAt_regs s p v).symm ▸ h.flags,
    (congrArg List.length (writeAt_fifo s p v)).trans_le h.fifo, HdmaWithin_writeAt h.hdma p v⟩

theorem keeps_memWrite (a : Word) (v : Byte) : Keeps 0 s (memWrite s a v) := keeps_writeAt s _ v

theorem keeps_mmuWrite (a : Word) (v : Byte) : Keeps 0 s (mmuWrite s a v) := keeps_writeAt s _ v

theorem keeps_setRegs {r : Regs} (h : s.regs.FlagsClean → r.FlagsClean) : Keeps 0 s (s.setRegs r) :=
  ⟨rfl, fun hs => ⟨hs.mem, h hs.flags, hs.fifo, hs.hdma⟩⟩

theorem keeps_setFlags (g : Flags) : Keeps 0 s (s.setFlags g) := keeps_setRegs s fun _ => s.regs.FlagsClean_setFlags g

theorem keeps_setMem {m : List Host.Cell} (h : Mem.wf s.mem = true → Mem.wf m = true) :
    Keeps 0 s { s with mem := m } :=
  ⟨rfl, fun hs => ⟨h hs.mem, hs.flags, hs.fifo, hs.hdma⟩⟩

theorem keeps_oamBug (k : Option OamCause) : Keeps 0 s (oamBug k s) := by
  unfold oamBug
  cases k with
  | none => exact .refl s
  | some k =>
    dsimp only
    split
    · exact keeps_setMem s (Mem.wf_writeAll _ _)
    · exact .refl s

theorem keeps_pushByte (v : Byte) : Keeps 0 s (pushByte s v) :=
  have hsp : Keeps 0 s (s.setRegs { s.regs with sp := s.regs.sp - 1 }) := keeps_setRegs s id
  hsp.trans (keeps_memWrite _ _ v)

theorem keeps_put8 (r : Res8) : Keeps 0 s (MicroOp.put8 s r) :=
  (keeps_setFlags s r.flags).trans (.of_vital rfl)

theorem keeps_put16 (r : Res16) : Keeps 0 s (MicroOp.put16 s r) :=
  (keeps_setFlags s r.flags).trans (.of_vital rfl)

/-- The effect of a micro-operation: a store to memory, a register or the flags; the others change the engine's
temporaries, SP or IME only. -/
theorem keeps_run (op : MicroOp) : Keeps 0 s (op.run s) := by
  cases op with
  | str r => exact keeps_setRegs s fun h => Regs.FlagsClean_store h r _
  | wr am => exact keeps_memWrite s _ _
  | wr16Lo a => exact keeps_memWrite s _ _
  | wr16Hi a => exact keeps_memWrite s _ _
  | alu1 f => exact keeps_put8 s _
  | clrz => exact keeps_setFlags s _
  | alu2 op src => exact keeps_put8 s _
  | addHl rr => exact keeps_put16 s _
  | addSp e => exact keeps_put16 s _
  | bit b => exact keeps_setFlags s _
  | bitHl b => exact keeps_setFlags s _
  | pushHi => exact keeps_pushByte s _
  | pushLo => exact keeps_pushByte s _
  | _ => exact .of_vital rfl

theorem keeps_microStep (op : MicroOp) : Keeps 0 s (op.step s) :=
  have hindex : Keeps 0 s (s.setOpIndex (s.eng.opIndex + 1)) := .of_vital rfl
  (hindex.trans (keeps_oamBug _ (op.cause s))).trans (keeps_run _ op)

theorem keeps_finish : Keeps 0 s (finish s) := .of_vital rfl

theorem keeps_halt : Keeps 0 s (halt s) := by
  unfold halt
  split <;> exact .of_vital rfl

theorem keeps_stop : Keeps 0 s (stop s) := by
  unfold stop
  split <;> exact .of_vital rfl

theorem keeps_leaveStopped : Keeps 0 s (leaveStopped s) := by
  unfold leaveStopped
  split <;> exact .of_vital rfl

theorem keeps_fetchOpcode : Keeps 0 s (fetchOpcode s) := by
  refine .of_vital ?_
  simp only [fetchOpcode, State.vital]
  split <;> rfl

theorem keeps_irqReadIe : Keeps 0 s (irqReadIe s) := by
  unfold irqReadIe irqAcknowledge
  dsimp only
  split <;> exact .of_vital rfl

theorem keeps_irqPush1 : Keeps 0 s (irqPush1 s) := (keeps_pushByte s _).trans (.of_vital rfl)

theorem keeps_irqPush2 : Keeps 0 s (irqPush2 s) := (keeps_pushByte s _).trans (.of_vital rfl)

theorem keeps_irqJump : Keeps 0 s (irqJump s) := by
  refine .of_vital ?_
  simp only [irqJump, State.vital]
  split <;> rfl

end

/-! ### The other agents' part of a master tick -/

section
variable (s : State)

theorem keeps_preCpu : Keeps 1 s (preCpu s) := ⟨clock_preCpu s, fun h => ⟨h.mem, h.flags, h.fifo, h.hdma⟩⟩

theorem keeps_countCycle : Keeps 0 s (countCycle s) := .of_vital rfl

theorem keeps_dmaTick : Keeps 0 s (dmaTick s) where
  clock := rfl
  sound h := by
    refine ⟨?_, h.flags, h.fifo, h.hdma⟩
    rw [dmaTick_mem]
    split
    · exact Mem.wf_writeAll _ _ h.mem
    · exact h.mem

theorem refresh_events (h : HostSide) (r : Option Mode) : (h.refresh r).events = h.events := by
  unfold HostSide.refresh
  split
  · rfl
  · split <;> rfl

theorem keeps_ppuTick : Keeps 0 s (ppuTick s) where
  clock := by simp only [State.clock, ppuTick_host, ppuTick_masterTicks, refresh_events, refresh_stopFlag]; rfl
  sound h := ⟨h.mem, h.flags, h.fifo.tick s.ppuEnv, h.hdma⟩

theorem keeps_postCpu : Keeps 0 s (postCpu s) :=
  have hd := keeps_dmaTick s
  have hs : Keeps 0 (dmaTick s) (serialTick (soundTick (dmaTick s))) := .of_vital rfl
  (hd.trans hs).trans (keeps_ppuTick _)

theorem keeps_endTick : Keeps 0 s (endTick s) := by
  unfold endTick
  split
  · exact .refl s
  · exact keeps_postCpu s

theorem keeps_copyBlock (src dst : Word) (n j : Nat) : Keeps 0 s (copyBlock src dst n j s) := by
  induction n generalizing j s with
  | zero => exact .refl s
  | succ n ih => exact (keeps_mmuWrite s _ _).trans (ih _ _)

/-- A tick of an HDMA transfer: a block is copied like bytes stored, and the window moves along with it. -/
theorem keeps_hdmaTick (ha : s.hdmaActive = true) : Keeps 0 s (hdmaTick s) := by
  have hcp : s.cfg.cgb = true ∧ s.hdma.inProgress = true := by
    simp only [State.hdmaActive, Hdma.active, Bool.and_eq_true] at ha
    exact ⟨ha.1, ha.2.1⟩
  have hcopy := keeps_copyBlock (hdmaCount s) s.hdma.src s.hdma.dst 16 0
  have hcount : s.Sound → (copyBlock s.hdma.src s.hdma.dst 16 0 (hdmaCount s)).Sound := fun h =>
    hcopy.sound ⟨h.mem, h.flags, h.fifo, h.hdma⟩
  refine ⟨?_, fun h => ?_⟩
  · unfold hdmaTick
    split
    · rfl
    · exact hcopy.clock
  · have hw := HdmaWithin_hdmaTick h.hdma hcp.1 hcp.2
    by_cases hc : s.hdma.tick + 1 < s.cfg.hdmaBlockTicks
    · rw [hdmaTick, if_pos hc] at hw ⊢
      exact ⟨h.mem, h.flags, h.fifo, hw⟩
    · rw [hdmaTick, if_neg hc] at hw ⊢
      obtain ⟨hmem, hflags, hfifo, -⟩ := hcount h
      exact ⟨hmem, hflags, hfifo, hw⟩

end

/-! ### The passage of time and the instructions -/

section
variable (s : State)

theorem reaches_toSlot (n : Nat) : Reaches s (toSlot n s) := by
  induction n generalizing s with
  | zero => exact (Keeps.refl s).reaches
  | succ n ih =>
    have hpre := keeps_preCpu s
    simp only [toSlot]
    split
    · next ha => exact ((hpre.trans (keeps_hdmaTick _ ha)).trans (keeps_postCpu _)).reaches.trans (ih _)
    · split
      · exact (hpre.trans (keeps_countCycle _)).reaches
      · exact ((hpre.trans (keeps_countCycle _)).trans (keeps_postCpu _)).reaches.trans (ih _)

theorem reaches_nextSlot : Reaches s (nextSlot s) := reaches_toSlot s _

theorem reaches_nextCycle : Reaches s (nextCycle s) := (keeps_postCpu s).reaches.trans (reaches_nextSlot _)

theorem reaches_runOps (b : Bool) (ops : List MicroOp) : Reaches s (runOps b ops s) := by
  induction ops generalizing b s with
  | nil => exact (keeps_finish s).reaches
  | cons op rest ih =>
    have hslot : Reaches s (if b && op.mem then nextCycle s else s) := by
      split
      · exact reaches_nextCycle s
      · exact (Keeps.refl s).reaches
    have hstep := hslot.trans (keeps_microStep _ op).reaches
    unfold runOps
    dsimp only
    generalize (if b && op.mem then nextCycle s else s) = s1 at hstep ⊢
    split
    · exact hstep.trans (.of_vital rfl)
    · split
      · exact (hstep.trans (reaches_nextCycle _)).trans (ih _ _)
      · exact hstep.trans (ih _ _)

theorem reaches_fetchOperands (n : Nat) : Reaches s (fetchOperands n s) := by
  induction n generalizing s with
  | zero => exact (Keeps.refl s).reaches
  | succ n ih =>
    have hbyte : Reaches (nextCycle s) (fetchOperand (nextCycle s)) := .of_vital rfl
    exact ((reaches_nextCycle s).trans hbyte).trans (ih _)

theorem reaches_fetch : Reaches s (fetch s) := by
  refine (keeps_fetchOpcode s).reaches.trans ?_
  show Reaches _ (fetchRest _)
  unfold fetchRest
  split
  · exact (Keeps.refl _).reaches
  · split
    · exact (reaches_nextCycle _).trans (.of_vital rfl)
    · exact (reaches_fetchOperands _ _).trans (.of_vital rfl)

theorem reaches_takeInterrupt : Reaches s (takeInterrupt s) := by
  have hif : Reaches s (irqReadIf s) := .of_vital rfl
  have hsel := (hif.trans (reaches_nextCycle _)).trans (keeps_irqReadIe _).reaches
  unfold takeInterrupt
  dsimp only
  split
  · exact hsel
  · have hpush1 := (hsel.trans (reaches_nextCycle _)).trans (keeps_irqPush1 _).reaches
    have hpush2 := (hpush1.trans (reaches_nextCycle _)).trans (keeps_irqPush2 _).reaches
    exact (hpush2.trans (reaches_nextCycle _)).trans (keeps_irqJump _).reaches

end

/-! ### Where a step leaves the engine -/

/-- The engine is idle or has stopped for good. -/
def Engine.Settled (e : Engine) : Prop := e.fsm.idle = true ∨ e.faulted.isSome = true

theorem Engine.settled_of_opcode {e : Engine} (h : e.fsm = .opcode) : e.Settled := .inl (by rw [h]; rfl)

theorem Engine.Settled.atBoundary {s : State} (h : s.eng.Settled) : s.AtBoundary := by
  rcases h with h | h
  · exact .inl h
  · refine .inr ?_
    cases hf : s.eng.faulted with
    | none => rw [hf] at h; cases h
    | some u => simp [State.loops, hf]

theorem endTick_eng (s : State) : (endTick s).eng = s.eng := by
  unfold endTick
  split <;> rfl

theorem runOps_fsm (b : Bool) (ops : List MicroOp) (s : State) : (runOps b ops s).eng.fsm = .opcode := by
  induction ops generalizing b s with
  | nil => rfl
  | cons op rest ih =>
    unfold runOps
    dsimp only
    generalize (if b && op.mem then nextCycle s else s) = s1
    split
    · rfl
    · split
      · exact ih _ _
      · exact ih _ _

theorem halt_settled (s : State) : (halt s).eng.Settled := by
  unfold halt
  split <;> exact .inl rfl

theorem stop_settled (s : State) : (stop s).eng.Settled := by
  unfold stop
  split <;> exact .inl rfl

theorem takeInterrupt_fsm (s : State) : (takeInterrupt s).eng.fsm = .opcode := by
  unfold takeInterrupt
  dsimp only
  split
  · next h =>
    revert h
    unfold irqReadIe irqAcknowledge
    dsimp only
    split
    · exact fun _ => rfl
    · next i hi => exact fun h => nomatch hi.symm.trans h
  · rfl

/-- The four kinds of meaning: HALT, STOP, an undefined byte, and a list of micro-operations (40_cpu_fsm R179). -/
theorem formExec_cases (f : Form) (s : State) :
    formExec f s = .next (halt s) ∨ formExec f s = .next (stop s) ∨
    (∃ b, formExec f s = .next (raiseUnknownOpcode b s)) ∨ formExec f s = runMicro f.ops s := by
  cases f with
  | halt => exact .inl rfl
  | stop b => exact .inr (.inl rfl)
  | illegal b => exact .inr (.inr (.inl ⟨b, rfl⟩))
  | _ => exact .inr (.inr (.inr rfl))

/-- An instruction answers a next state, within the invariant, with the engine settled. -/
theorem exec_next (i : Instr) (s : State) : ∃ t, exec i s = .next t ∧ Reaches s t ∧ t.eng.Settled := by
  rw [exec_form]
  rcases formExec_cases (form i) s with h | h | ⟨b, h⟩ | h
  · exact ⟨_, h, (keeps_halt s).reaches, halt_settled s⟩
  · exact ⟨_, h, (keeps_stop s).reaches, stop_settled s⟩
  · exact ⟨_, h, .of_vital rfl, .inr rfl⟩
  · exact ⟨_, h, reaches_runOps s true _, Engine.settled_of_opcode (runOps_fsm _ _ _)⟩

theorem runInstruction_next (s : State) : ∃ t, runInstruction s = .next t ∧ Reaches s t ∧ t.eng.Settled := by
  obtain ⟨t, he, hr, hs⟩ := exec_next (fetch s).eng.instr (fetch s)
  refine ⟨endTick t, by rw [runInstruction, he], ?_, (endTick_eng t).symm ▸ hs⟩
  exact ((reaches_fetch s).trans hr).trans (keeps_endTick t).reaches

/-- The gated tick of a step from an idle state, with what follows it, ends with the engine settled. -/
theorem stepAtSlot_next (s : State) : ∃ t, stepAtSlot s = .next t ∧ Reaches s t ∧ t.eng.Settled := by
  have hpost : Reaches s (postCpu s) := (keeps_postCpu s).reaches
  have hwake : Reaches s (s.setFsm .opcode) := .of_vital rfl
  have hidle (h : s.eng.fsm.idle = true) : (postCpu s).eng.Settled := .inl h
  unfold stepAtSlot
  split
  · have hint := (keeps_leaveStopped s).reaches.trans (reaches_takeInterrupt _)
    exact ⟨_, rfl, hint.trans (keeps_postCpu _).reaches, Engine.settled_of_opcode (takeInterrupt_fsm _)⟩
  · cases hf : s.eng.fsm with
    | stopped => exact ⟨_, rfl, hpost, hidle (by rw [hf]; rfl)⟩
    | halted =>
      dsimp only
      split
      · split
        · exact ⟨_, rfl, hwake.trans (keeps_postCpu _).reaches, .inl rfl⟩
        · obtain ⟨t, he, hr, hs⟩ := runInstruction_next (s.setFsm .opcode)
          exact ⟨t, he, hwake.trans hr, hs⟩
      · exact ⟨_, rfl, hpost, hidle (by rw [hf]; rfl)⟩
    | _ => exact runInstruction_next s

/-! ### One master tick -/

section
variable (s : State)

theorem keeps_gatedLoop (n : Nat) (b : Bool) : Keeps 0 s (gatedLoop n b s) := by
  induction n generalizing b s with
  | zero => exact .refl s
  | succ n ih =>
    unfold gatedLoop
    cases s.eng.fsm with
    | opcode =>
      dsimp only
      split
      · exact (keeps_fetchOpcode s).trans (.of_vital rfl)
      · exact (keeps_fetchOpcode s).trans (ih _ _)
    | extOpcode =>
      have hbyte : Keeps 0 s (fetchSecond s) := .of_vital rfl
      dsimp only
      split
      · exact .refl s
      · exact hbyte.trans (ih _ _)
    | operand =>
      have hbyte : Keeps 0 s (fetchOperand s) := .of_vital rfl
      have hrun : Keeps 0 s (s.setFsm .running) := .of_vital rfl
      dsimp only
      split
      · split
        · exact .refl s
        · exact hbyte.trans (ih _ _)
      · exact hrun.trans (ih _ _)
    | running =>
      dsimp only
      split
      · exact keeps_stop s
      · split
        · exact keeps_halt s
        · split
          · exact keeps_finish s
          · next op _ =>
            have hop := keeps_microStep s op
            split
            · exact .refl s
            · split
              · exact hop.trans (.of_vital rfl)
              · split
                · exact hop
                · exact hop.trans (ih _ _)
    | _ => exact .refl s

theorem keeps_gatedStep : Keeps 0 s (gatedStep s) := by
  unfold gatedStep
  cases s.eng.fsm with
  | irqReadIf => exact .of_vital rfl
  | irqReadIe => exact keeps_irqReadIe s
  | irqPush1 => exact keeps_irqPush1 s
  | irqPush2 => exact keeps_irqPush2 s
  | irqJump => exact keeps_irqJump s
  | halted =>
    have hwake : Keeps 0 s (s.setFsm .opcode) := .of_vital rfl
    dsimp only
    split
    · split
      · exact hwake
      · exact hwake.trans (keeps_gatedLoop _ _ _)
    · exact .refl s
  | stopped => exact .refl s
  | _ => exact keeps_gatedLoop s _ _

theorem keeps_gatedTick : Keeps 0 s (gatedTick s) := by
  unfold gatedTick
  split
  · exact (keeps_leaveStopped s).trans (.of_vital rfl)
  · exact keeps_gatedStep s

theorem keeps_cpuTick : Keeps 0 s (cpuTick s) := by
  unfold cpuTick
  split
  · exact .refl s
  · split
    · exact (keeps_countCycle s).trans (keeps_gatedTick _)
    · exact keeps_countCycle s

/-- A master tick of a running machine is one tick of the clock. -/
theorem keeps_machineTick (h : s.loops = true) : Keeps 1 s (machineTick s) := by
  unfold machineTick
  rw [if_pos h]
  dsimp only
  refine ((keeps_preCpu s).trans (m := 0) ?_).trans (keeps_endTick _)
  split
  · next ha => exact keeps_hdmaTick _ ha
  · exact keeps_cpuTick _

theorem machineTick_stopped (h : s.loops = false) : machineTick s = s := by
  rw [machineTick, h]
  rfl

/-- A run of master ticks leaves the loop, or the clock has ticked as often. -/
theorem clock_ticks (n : Nat) : (ticks n s).loops = false ∨ (ticks n s).clock = Clock.tick^[n] s.clock := by
  induction n with
  | zero => exact .inr rfl
  | succ n ih =>
    rw [ticks_succ]
    cases hl : (ticks n s).loops with
    | false => exact .inl (by rw [machineTick_stopped _ hl, hl])
    | true =>
      rw [hl] at ih
      have hc := ih.resolve_left nofun
      refine .inr ?_
      rw [(keeps_machineTick _ hl).clock, hc]
      exact (Function.iterate_succ_apply' _ _ _).symm

end

theorem State.Sound.ticks {s : State} (h : s.Sound) (n : Nat) : (ticks n s).Sound := by
  induction n with
  | zero => exact h
  | succ n ih =>
    rw [ticks_succ]
    cases hl : (Machine.ticks n s).loops with
    | false => rwa [machineTick_stopped _ hl]
    | true => exact (keeps_machineTick _ hl).sound ih

/-! ### One step -/

/-- A whole step keeps the invariant; and where it meets a stop event, the master ticks up to it do, after which the loop
is left: the clock reads the same as after the whole step (log 23). -/
theorem untilStopped_inv {s t : State} (hs : s.Sound) (hr : Reaches s t) (ht : t.eng.Settled) :
    (untilStopped s t).Inv := by
  obtain ⟨n, hk⟩ := hr
  cases hf : t.host.stopFlag with
  | false =>
    rw [untilStopped_live s hf]
    exact (hk.sound hs).inv ht.atBoundary
  | true =>
    have hn : t.masterTicks - s.masterTicks = n := by
      have hm : t.masterTicks = s.masterTicks + n :=
        (congrArg Clock.masterTicks hk.clock).trans (masterTicks_iterate_tick n s.clock)
      omega
    rw [untilStopped_ticks s hf, hn]
    refine (hs.ticks n).inv (.inr ?_)
    rcases clock_ticks s n with hl | hc
    · exact hl
    · have hflag : (ticks n s).host.stopFlag = true :=
        (congrArg Clock.stopFlag (hc.trans hk.clock.symm)).trans hf
      simp [State.loops, hflag]

/-- Settles O18: every operation of a step keeps what holds in its middle too (`State.Sound`), an idle engine is settled
again at its end, and a step cut by the stop flag has left the loop (`untilStopped_inv`). -/
theorem stepKeepsInvariant : Obligations.StepKeepsInvariant := by
  intro s t h hstep
  unfold step machineStep at hstep
  cases hf : s.eng.faulted with
  | some u => rw [hf] at hstep; cases hstep
  | none =>
    simp only [hf] at hstep
    split at hstep
    · cases hstep
      exact h
    · next hlive =>
      have hidle : s.eng.fsm.idle = true := by
        refine h.boundary.resolve_right fun hl => ?_
        rw [loops_eq_true.2 ⟨hf, Bool.eq_false_iff.2 hlive⟩] at hl
        cases hl
      obtain ⟨w, hw, hr, hset⟩ := stepAtSlot_next (nextSlot s)
      rw [if_pos hidle, hw] at hstep
      cases hstep
      exact untilStopped_inv h.sound ((reaches_nextSlot s).trans hr) hset

end Sys2Proof.Machine

namespace Sys2Proof.Machine

/-! ### The register file (10_state R20 to R25) -/

theorem Regs.get8_set8 (r : Regs) (x y : Reg8) (v : Byte) : (r.set8 x v).get8 y = if y = x then v else r.get8 y := by
  cases x <;> cases y <;> rfl

/-- A pair read after a pair was written: the same one gives the word back, whose two bytes were stored apart. -/
theorem Regs.get16_set16 (r : Regs) (x y : Reg16) (v : Word) :
    (r.set16 x v).get16 y = if y = x then v else r.get16 y := by
  cases x <;> cases y
  case bc.bc | de.de | hl.hl => exact joinBytes_hi_lo v
  all_goals rfl

theorem joinBytes_masked (v : Word) : joinBytes (hiByte v) (loByte v &&& 0xF0) = v &&& 0xFFF0 := by
  have hmask : v &&& 0xFFF0 = joinBytes (hiByte v) (loByte v) &&& joinBytes 0xFF 0xF0 := by
    rw [joinBytes_hi_lo]
    rfl
  have hhi : hiByte v &&& 0xFF = hiByte v := BitVec.and_allOnes
  rw [hmask, joinBytes, joinBytes, joinBytes, BitVec.and_append, hhi]

theorem Regs.getStk_setStk {x : StackReg} (hx : x ≠ .af) (r : Regs) (v : Word) : (r.setStk x v).getStk x = v := by
  cases x with
  | bc => exact joinBytes_hi_lo v
  | de => exact joinBytes_hi_lo v
  | hl => exact joinBytes_hi_lo v
  | af => exact absurd rfl hx

theorem Regs.setStk_af_frame {x : StackReg} (hx : x ≠ .af) (r : Regs) (v : Word) :
    (r.setStk x v).a = r.a ∧ (r.setStk x v).f = r.f := by
  cases x with
  | bc => exact ⟨rfl, rfl⟩
  | de => exact ⟨rfl, rfl⟩
  | hl => exact ⟨rfl, rfl⟩
  | af => exact absurd rfl hx

/-- Z, N, H and C stand in bits 7 to 4 of F. -/
@[simp] theorem Flags.unpack_pack (g : Flags) : Flags.unpack g.pack = g := by
  obtain ⟨z, n, h, c⟩ := g
  revert z n h c
  decide

@[simp] theorem Regs.flags_setFlags (r : Regs) (g : Flags) : (r.setFlags g).flags = g := g.unpack_pack

/-- Settles O30: each clause is a law of one accessor, by its registers. -/
theorem registerFile : Obligations.RegisterFile := by
  refine ⟨Regs.get8_set8, ?_, Regs.get16_set16, ?_, ?_, ?_, ?_, ?_⟩
  · intro r x v
    cases x <;> exact ⟨rfl, rfl, rfl⟩
  · exact fun r => ⟨rfl, rfl, rfl, rfl, rfl, rfl, rfl, rfl⟩
  · exact fun r v => ⟨joinBytes_masked v, rfl, fun x hx =>
      ⟨Regs.getStk_setStk hx r v, Regs.setStk_af_frame hx r v⟩⟩
  · exact fun r g => ⟨rfl, r.flags_setFlags g, g.pack_low⟩
  · exact fun r => rfl
  · intro r g
    have hg := r.flags_setFlags g
    exact ⟨congrArg Flags.z hg, congrArg Flags.n hg, congrArg Flags.h hg, congrArg Flags.c hg⟩

/-! ### The interrupt registers and KEY1 (10_state R39 to R41) -/

/-- From 0xFF00 on, the PPU's gate has no part in what the CPU sees. -/
theorem place_high (s : State) {a : Word} (h : 0xFF00 ≤ a.toNat) : place s a = region s a := by
  have hg : s.gated a = false := by
    simp only [State.gated, Bool.or_eq_false_iff, Bool.and_eq_false_iff, decide_eq_false_iff_not]
    omega
  rw [place, hg]
  rfl

theorem place_if (s : State) : place s 0xFF0F = .device 0xFF0F := place_high s (by decide)

theorem place_ie (s : State) : place s 0xFFFF = .device 0xFFFF := place_high s (by decide)

theorem place_key1 (s : State) : place s 0xFF4D = if s.cfg.cgb then .device 0xFF4D else .void := by
  rw [place_high s (by decide)]
  show (if mapped s.cfg.cgb 0xFF4D then _ else _) = _
  cases s.cfg.cgb <;> rfl

theorem memRead_device {s : State} {a : Word} {n : Nat} (h : place s a = .device n) : memRead s a = readDevice s n := by
  simp [memRead, readAt, h]

theorem memRead_void {s : State} {a : Word} (h : place s a = .void) : memRead s a = 0xFF := by
  simp [memRead, readAt, h]

/-- The bits of IF as read: the five stored ones below three that read 1. -/
theorem readIf_of_ifFlags {q : IrqCtl} {v : Byte} (h : q.ifFlags = v.setWidth 5) : q.readIf = v ||| 0xE0 := by
  rw [IrqCtl.readIf, h]
  apply BitVec.eq_of_getLsbD_eq
  intro i hi
  interval_cases i <;> simp

/-- KEY1 as read, from the speed and the armed bit. -/
theorem SpeedSwitch.read_eq (k : SpeedSwitch) :
    k.read = (if k.speed = .double then 0xFE else 0x7E) ||| (if k.prepareSwitch then 1 else 0) := by
  obtain ⟨sp, ps⟩ := k
  cases sp <;> cases ps <;> rfl

/-- Settles O27: each address leads to its device register, whose read and write are the unit's own. -/
theorem interruptRegisters : Obligations.InterruptRegisters := by
  refine ⟨fun s v => ?_, fun s v => ?_, fun s v hc => ?_, fun s hc => ?_⟩
  · have hirq : (memWrite s 0xFF0F v).irq = { s.irq with ifFlags := v.setWidth 5 } := by
      rw [memWrite_device v (place_if s)]
      rfl
    refine ⟨hirq, ?_⟩
    rw [memRead_device (place_if _)]
    exact readIf_of_ifFlags (congrArg IrqCtl.ifFlags hirq)
  · have hirq : (memWrite s 0xFFFF v).irq = { s.irq with ie := v } := by
      rw [memWrite_device v (place_ie s)]
      rfl
    refine ⟨hirq, ?_⟩
    rw [memRead_device (place_ie _)]
    exact congrArg IrqCtl.ie hirq
  · have hp : place s 0xFF4D = .device 0xFF4D := (place_key1 s).trans (if_pos hc)
    rw [memWrite_device v hp, memRead_device hp]
    exact ⟨rfl, s.spd.read_eq⟩
  · have hp : place s 0xFF4D = .void := (place_key1 s).trans (by rw [hc]; rfl)
    exact ⟨memRead_void hp, fun v => memWrite_void v hp⟩

end Sys2Proof.Machine

/-! ## The memory map and the passage of time: the statements of the family 20_memory -/

/-! ### The canonical form of storage (log 3) -/

namespace Sys2Proof.Machine.Mem

open Host (Cell)

/-- A canonical list lists no key below the first one of a canonical list with the same contents. -/
theorem head_le_of_read_eq {low low' k k' : Nat} {v v' : Byte} {m m' : List Cell}
    (h : wfFrom low ((k, v) :: m) = true) (h' : wfFrom low' ((k', v') :: m') = true)
    (heq : ∀ a, read ((k, v) :: m) a = read ((k', v') :: m') a) : k' ≤ k := by
  obtain ⟨-, hv, -⟩ := wfFrom_cons.mp h
  obtain ⟨-, hv', hm'⟩ := wfFrom_cons.mp h'
  by_contra hlt
  have hbelow : read ((k', v') :: m') k = unlisted :=
    read_below (wfFrom_cons.mpr ⟨le_rfl, hv', hm'⟩) (Nat.lt_of_not_le hlt)
  refine hv (Eq.trans ?_ ((heq k).trans hbelow))
  simp [read]

/-- The contents of a canonical list past its first key are those of its tail. -/
theorem read_tail {low k : Nat} {v : Byte} {m : List Cell} (h : wfFrom low ((k, v) :: m) = true) (a : Nat) :
    read m a = if a = k then unlisted else read ((k, v) :: m) a := by
  obtain ⟨-, -, hm⟩ := wfFrom_cons.mp h
  split
  · next ha => exact read_below hm (by omega)
  · next ha => simp [read, ha]

/-- Two canonical lists with the same contents are the same list. -/
theorem wfFrom_ext {low : Nat} {m m' : List Cell} (h : wfFrom low m = true) (h' : wfFrom low m' = true)
    (heq : ∀ a, read m a = read m' a) : m = m' := by
  induction m generalizing low m' with
  | nil =>
    cases m' with
    | nil => rfl
    | cons c' m' =>
      obtain ⟨k', v'⟩ := c'
      obtain ⟨-, hv', -⟩ := wfFrom_cons.mp h'
      exact absurd (by simpa [read] using (heq k').symm) hv'
  | cons c m ih =>
    obtain ⟨k, v⟩ := c
    cases m' with
    | nil =>
      obtain ⟨-, hv, -⟩ := wfFrom_cons.mp h
      exact absurd (by simpa [read] using heq k) hv
    | cons c' m' =>
      obtain ⟨k', v'⟩ := c'
      have hkey : k = k' :=
        le_antisymm (head_le_of_read_eq h' h fun a => (heq a).symm) (head_le_of_read_eq h h' heq)
      subst hkey
      have hval : v = v' := by simpa [read] using heq k
      have htail : m = m' := by
        refine ih (wfFrom_cons.mp h).2.2 (wfFrom_cons.mp h').2.2 fun a => ?_
        rw [read_tail h, read_tail h', heq a]
      rw [hval, htail]

end Sys2Proof.Machine.Mem

namespace Sys2Proof.Machine

/-- Settles O23: a write keeps the canonical form, and the form is determined by its contents, key by key. -/
theorem memoryCanonicalForm : Obligations.MemoryCanonicalForm :=
  ⟨fun _ k v h => Mem.wf_write k v h, fun _ _ h h' heq => Mem.wfFrom_ext h h' heq⟩

/-- Settles O22: a store leaves alone what `Stored` says (`stored_memWrite`), here at a cell. -/
theorem memoryReadAfterWrite : Obligations.MemoryReadAfterWrite := by
  intro s a v k hwf hp
  have hstored := stored_memWrite s a v
  simp only [Stored, hp] at hstored
  obtain ⟨hsame, hother⟩ := hstored
  refine ⟨hsame hwf, hother, ?_⟩
  rw [memWrite_cell v hp]

/-! ### The region dispatch, one rule per region (20_memory R85 to R95) -/

section
variable (s : State) {a : Word}

/-- The PPU's gate stands before VRAM and OAM only (48_ppu R448). -/
theorem place_ungated (h : a.toNat < 0x8000 ∨ (0xA000 ≤ a.toNat ∧ a.toNat < 0xFE00) ∨ 0xFEA0 ≤ a.toNat) :
    place s a = region s a := by
  have hg : s.gated a = false := by
    simp only [State.gated, Bool.or_eq_false_iff, Bool.and_eq_false_iff, decide_eq_false_iff_not]
    omega
  rw [place, hg]
  rfl

theorem place_rom (h : a.toNat < 0x8000) :
    place s a = if s.bootCovers a.toNat then .boot a.toNat else .cart a.toNat := by
  rw [place_ungated s (.inl h)]
  simp (disch := omega) only [region, if_pos]

theorem region_vram (h : 0x8000 ≤ a.toNat) (h' : a.toNat < 0xA000) : region s a = .cell (s.vramKey a.toNat) := by
  simp (disch := omega) only [region, if_pos, if_neg]

theorem place_cartRam (h : 0xA000 ≤ a.toNat) (h' : a.toNat < 0xC000) : place s a = .cart a.toNat := by
  rw [place_ungated s (.inr (.inl (by omega)))]
  simp (disch := omega) only [region, if_pos, if_neg]

theorem place_wram (h : 0xC000 ≤ a.toNat) (h' : a.toNat < 0xE000) : place s a = .cell (s.wramKey a.toNat) := by
  rw [place_ungated s (.inr (.inl (by omega)))]
  simp (disch := omega) only [region, if_pos, if_neg]

theorem place_echo (h : 0xE000 ≤ a.toNat) (h' : a.toNat < 0xFE00) : place s a = place s (a - 0x2000) := by
  have hsub : (a - 0x2000).toNat = a.toNat - 0x2000 := by
    rw [BitVec.toNat_sub]
    simp
    omega
  rw [place_wram s (a := a - 0x2000) (by omega) (by omega), place_ungated s (.inr (.inl (by omega))), hsub]
  simp (disch := omega) only [region, if_pos, if_neg]

theorem region_oam (h : 0xFE00 ≤ a.toNat) (h' : a.toNat < 0xFEA0) :
    region s a = if s.oamBlocked then .void else .cell a.toNat := by
  simp (disch := omega) only [region, if_pos, if_neg]

theorem place_unusable (h : 0xFEA0 ≤ a.toNat) (h' : a.toNat < 0xFF00) : place s a = .void := by
  rw [place_ungated s (.inr (.inr h))]
  simp (disch := omega) only [region, if_pos, if_neg]

theorem place_io (h : 0xFF00 ≤ a.toNat) (h' : a.toNat < 0xFF80) :
    place s a = if mapped s.cfg.cgb a.toNat then .device a.toNat else .void := by
  rw [place_high s h]
  simp (disch := omega) only [region, if_pos, if_neg]

theorem place_hram (h : 0xFF80 ≤ a.toNat) (h' : a.toNat < 0xFFFF) : place s a = .cell a.toNat := by
  rw [place_high s (by omega)]
  simp (disch := omega) only [region, if_pos, if_neg]

theorem place_gated (h : s.gated a = true) : place s a = .void := by rw [place, if_pos h]

end

/-- A read or a write depends on the address by its place only. -/
theorem access_congr {s : State} {a b : Word} (h : place s a = place s b) :
    memRead s a = memRead s b ∧ ∀ v, memWrite s a v = memWrite s b v := by
  simp only [memRead, memWrite, h, implies_true, and_self]

/-- Where there is no region, reads give 0xFF and writes are dropped (20_memory R83). -/
theorem access_void {s : State} {a : Word} (h : place s a = .void) : memRead s a = 0xFF ∧ ∀ v, memWrite s a v = s :=
  ⟨memRead_void h, fun v => memWrite_void v h⟩

theorem memRead_cart {s : State} {a : Word} {n : Nat} (h : place s a = .cart n) :
    memRead s a = s.cfg.cartRead s.cart s.mem n := by simp [memRead, readAt, h]

theorem memRead_boot {s : State} {a : Word} {n : Nat} (h : place s a = .boot n) : memRead s a = s.cfg.bootByte n := by
  simp [memRead, readAt, h]

/-- The device addresses that no unit takes (20_memory R94). -/
theorem mapped_eq_false {cgb : Bool} {n : Nat} (h : n = 0xFF03 ∨ (0xFF08 ≤ n ∧ n ≤ 0xFF0E) ∨
      (0xFF27 ≤ n ∧ n ≤ 0xFF2F) ∨ n = 0xFF4C ∨ n = 0xFF4E ∨ (0xFF56 ≤ n ∧ n ≤ 0xFF67) ∨
      (0xFF6C ≤ n ∧ n ≤ 0xFF6F) ∨ (0xFF71 ≤ n ∧ n ≤ 0xFF7F) ∨
      (cgb = false ∧ (n = 0xFF4D ∨ n = 0xFF4F ∨ (0xFF51 ≤ n ∧ n ≤ 0xFF55) ∨
        (0xFF68 ≤ n ∧ n ≤ 0xFF6B) ∨ n = 0xFF70))) : mapped cgb n = false := by
  simp only [mapped, Bool.or_eq_false_iff, Bool.and_eq_false_iff, decide_eq_false_iff_not]
  cases cgb with
  | true => simp only [Bool.true_eq_false, false_and, or_false, false_or] at h ⊢; omega
  | false => simp only [true_and, true_or, and_true] at h ⊢; omega

theorem nth_eq_of_getElem? {α : Type} {d x : α} {xs : List α} {n : Nat} (h : xs[n]? = some x) : nth d xs n = x := by
  induction xs generalizing n with
  | nil => cases h
  | cons y ys ih =>
    cases n with
    | zero => exact Option.some.inj h
    | succ n => exact ih h

/-- In the cartridge region a write goes to the cartridge, overlay or not (20_memory R87, R96). -/
theorem memWrite_cartRegion (s : State) {a : Word} (v : Byte)
    (h : a.toNat < 0x8000 ∨ (0xA000 ≤ a.toNat ∧ a.toNat < 0xC000)) : memWrite s a v = writeCart s a.toNat v := by
  refine memWrite_cart v ?_
  rcases h with h | ⟨h, h'⟩
  · rw [place_rom s h]
    split
    · exact .inr rfl
    · exact .inl rfl
  · exact .inl (place_cartRam s h h')

/-! ### The boot ROM overlay (20_memory R87) -/

/-- What every place holds is the same without the overlay; the overlay only changes places. -/
theorem readAt_setBootRom (s : State) (b : Bool) (p : Place) : readAt { s with bootRomEnabled := b } p = readAt s p := by
  cases p <;> rfl

theorem place_setBootRom {s : State} {a : Word} (b : Bool) (h : 0x8000 ≤ a.toNat) :
    place { s with bootRomEnabled := b } a = place s a := by
  have hr : region { s with bootRomEnabled := b } a = region s a := by
    simp only [region, if_neg (Nat.not_lt.mpr h)]
    rfl
  rw [place, hr]
  rfl

theorem place_bootOff {s : State} {a : Word} (h : s.bootCovers a.toNat = false) :
    place { s with bootRomEnabled := false } a = place s a := by
  rcases Nat.lt_or_ge a.toNat 0x8000 with ha | ha
  · rw [place_rom _ ha, place_rom s ha, h]
    rfl
  · exact place_setBootRom false ha

theorem bootCovers_iff {s : State} {n : Nat} :
    s.bootCovers n = true ↔ s.bootRomEnabled = true ∧ (n < 0x100 ∨ (s.cfg.cgb = true ∧ 0x200 ≤ n ∧ n < 0x900)) := by
  simp [State.bootCovers, and_assoc]

/-- A write to 0xFF50 is taken by no unit but the switch of the overlay. -/
theorem writeDevice_bootSwitch (s : State) (v : Byte) : writeDevice s 0xFF50 v = { s with bootRomEnabled := false } :=
  rfl

/-- Under the overlay a read gives the boot ROM's byte. -/
theorem memRead_bootCovered {s : State} {a : Word} {b : Byte} (h : s.bootCovers a.toNat = true) (ha : a.toNat < 0x8000)
    (hb : s.cfg.bootRom[a.toNat]? = some b) : memRead s a = b := by
  rw [memRead_boot ((place_rom s ha).trans (if_pos h))]
  exact nth_eq_of_getElem? hb

/-- Beside the overlay a read is what it is without one. -/
theorem memRead_bootUncovered {s : State} {a : Word} (h : s.bootCovers a.toNat = false) :
    memRead s a = memRead { s with bootRomEnabled := false } a := by
  rw [memRead, memRead, place_bootOff h]
  exact (readAt_setBootRom s false _).symm

theorem place_bootSwitch (s : State) : place s 0xFF50 = .device 0xFF50 := by
  rw [place_io s (by decide) (by decide)]
  cases s.cfg.cgb <;> rfl

/-! ### The flat ROM (20_memory R96; log 4) -/

theorem memRead_flatRom_high {s : State} {a : Word} (hflat : s.cfg.cartridge = .flatRom) (h : 0xA000 ≤ a.toNat)
    (h' : a.toNat < 0xC000) : memRead s a = 0xFF := by
  rw [memRead_cart (place_cartRam s h h'), Config.cartRead, hflat]
  exact if_neg (by omega)

theorem memRead_flatRom_low {s : State} {a : Word} (hflat : s.cfg.cartridge = .flatRom) (h : a.toNat < 0x8000)
    (hoff : s.bootRomEnabled = false) : memRead s a = Mem.read s.mem a.toNat := by
  have hp : place s a = .cart a.toNat := by
    rw [place_rom s h, State.bootCovers, hoff]
    rfl
  rw [memRead_cart hp, Config.cartRead, hflat]
  exact if_pos h

/-- Settles O24: each region by its rule of the dispatch. -/
theorem memoryRegions : Obligations.MemoryRegions := by
  refine ⟨fun s a h h' => access_congr (place_echo s h h'), fun s a h => access_void ?_, fun s a h h' => ?_,
    fun s a v h => ?_, fun s a hflat => ⟨memRead_flatRom_high hflat, memRead_flatRom_low hflat⟩,
    fun s a v hon => ⟨fun h => ?_, fun h => ?_⟩, fun s => ?_⟩
  · rcases h with ⟨h, h'⟩ | h
    · exact place_unusable s h h'
    · simp only [← BitVec.toNat_inj, BitVec.reduceToNat] at h
      rw [place_io s (by omega) (by omega), mapped_eq_false h]
      rfl
  · have hp := place_hram s h h'
    exact ⟨memRead_cell hp, fun v => memWrite_cell v hp⟩
  · rw [memWrite_cartRegion s v h]
    exact ⟨rfl, writeCart_flat s v _⟩
  · have hcov : s.bootCovers a.toNat = true := bootCovers_iff.2 ⟨hon, h⟩
    have ha : a.toNat < 0x8000 := by omega
    refine ⟨fun b hb => memRead_bootCovered hcov ha hb, ?_⟩
    rw [memWrite_cartRegion s v (.inl ha), memWrite_cartRegion _ v (.inl ha)]
    rfl
  · refine memRead_bootUncovered ?_
    rw [Bool.eq_false_iff, Ne, bootCovers_iff]
    rintro ⟨-, h1 | ⟨hc, h1, h2⟩⟩
    · omega
    · simp only [hc, Bool.true_eq_false, false_and, or_false] at h
      omega
  · have hp := place_bootSwitch s
    exact ⟨memRead_device hp, fun v => (memWrite_device v hp).trans (writeDevice_bootSwitch s v)⟩

/-! ### Banks (20_memory R88, R90) -/

theorem place_vram (s : State) {a : Word} (hg : s.cfg.ppuBlocksCpu = false) (h : 0x8000 ≤ a.toNat)
    (h' : a.toNat < 0xA000) : place s a = .cell (s.vramKey a.toNat) := by
  rw [place_eq_region s a hg, region_vram s h h']

/-- SVBK and VBK exist on a CGB only (20_memory R94). -/
theorem place_svbk (s : State) : place s 0xFF70 = if s.cfg.cgb then .device 0xFF70 else .void := by
  rw [place_io s (by decide) (by decide)]
  cases s.cfg.cgb <;> rfl

theorem place_vbk (s : State) : place s 0xFF4F = if s.cfg.cgb then .device 0xFF4F else .void := by
  rw [place_io s (by decide) (by decide)]
  cases s.cfg.cgb <;> rfl

/-- SVBK as read: the three stored bits below five that read 1. -/
theorem readSvbk_eq (v : Byte) : 0xF8#8 ||| (v.setWidth 3).setWidth 8 = v ||| 0xF8 := by
  apply BitVec.eq_of_getLsbD_eq
  intro i hi
  interval_cases i <;> simp

/-- VBK as read: the one stored bit below seven that read 1. -/
theorem readVbk_eq (v : Byte) : 0xFE#8 ||| (v.setWidth 1).setWidth 8 = v ||| 0xFE := by
  apply BitVec.eq_of_getLsbD_eq
  intro i hi
  interval_cases i <;> simp

/-- Settles O25: the bank is part of the storage key, and each bank register holds its low bits. -/
theorem ramBanks : Obligations.RamBanks := by
  refine ⟨fun s a n h h' hc => ?_, fun s a h h' => ?_, fun s a n h h' hc hg => ?_, fun s a hc hg h => ?_,
    fun s hc => ⟨?_, ?_⟩, fun s v hc => ?_⟩
  · rw [place_wram _ (by omega) h']
    simp [State.wramKey, hc, h]
  · rw [place_wram s h (by omega)]
    simp [State.wramKey, show ¬ 0xD000 ≤ a.toNat by omega]
  · rw [place_vram { s with ppu := { s.ppu with vbk := n } } hg h h', State.vramKey]
    exact congrArg Place.cell (if_pos hc)
  · rcases h with ⟨h, h'⟩ | ⟨h, h'⟩
    · rw [place_vram s hg h h']
      simp [State.vramKey, hc]
    · rw [place_wram s h h']
      simp [State.wramKey, hc]
  · exact memRead_void (by rw [place_svbk, hc]; rfl)
  · exact memRead_void (by rw [place_vbk, hc]; rfl)
  · have hsvbk (t : State) (ht : t.cfg.cgb = true) : place t 0xFF70 = .device 0xFF70 :=
      (place_svbk t).trans (if_pos ht)
    have hvbk (t : State) (ht : t.cfg.cgb = true) : place t 0xFF4F = .device 0xFF4F :=
      (place_vbk t).trans (if_pos ht)
    rw [memWrite_device v (hsvbk s hc), memWrite_device v (hvbk s hc)]
    refine ⟨rfl, ?_, rfl, ?_⟩
    · rw [memRead_device (hsvbk (writeDevice s 0xFF70 v) hc)]
      exact readSvbk_eq v
    · rw [memRead_device (hvbk (writeDevice s 0xFF4F v) hc)]
      exact readVbk_eq v

/-! ### OAM DMA and the PPU's gate (49_dma_apu R461, R464, R465; 48_ppu R448) -/

/-- A blocked OAM is no place, whatever the PPU's gate says. -/
theorem place_oamBlocked {s : State} {a : Word} (hb : s.oamBlocked = true) (h : 0xFE00 ≤ a.toNat)
    (h' : a.toNat < 0xFEA0) : place s a = .void := by
  rw [place, region_oam s h h', hb]
  exact ite_self _

/-- Outside OAM the OAM DMA engine changes no place. -/
theorem region_setDma (s : State) (d : Dma) {a : Word} (h : a.toNat < 0xFE00 ∨ 0xFEA0 ≤ a.toNat) :
    region { s with dma := d } a = region s a := by
  unfold region
  dsimp only
  by_cases ho : a.toNat < 0xFEA0
  · have ho' : a.toNat < 0xFE00 := by omega
    simp only [if_pos ho']
    rfl
  · have ho' : ¬ a.toNat < 0xFE00 := by omega
    simp only [if_neg ho]
    rfl

theorem gated_iff {s : State} {a : Word} (hp : s.cfg.ppuBlocksCpu = true) (hl : s.ppu.lcdEnabled = true) :
    s.gated a = true ↔ (0x8000 ≤ a.toNat ∧ a.toNat < 0xA000 ∧ s.ppu.mode = .pixelTransfer) ∨
      (0xFE00 ≤ a.toNat ∧ a.toNat < 0xFEA0 ∧ (s.ppu.mode = .oamSearch ∨ s.ppu.mode = .pixelTransfer)) := by
  simp [State.gated, State.vramGated, State.oamGated, hp, hl, and_assoc]

/-- The map as the DMA engines see it does not depend on the PPU's gate, nor what a place holds. -/
theorem mmuRead_ungated (s : State) (a : Word) :
    mmuRead s a = memRead { s with cfg := { s.cfg with ppuBlocksCpu := false } } a := by
  rw [memRead, place_eq_region _ _ rfl]
  have hr : region { s with cfg := { s.cfg with ppuBlocksCpu := false } } a = region s a := rfl
  rw [hr, mmuRead]
  cases region s a with
  | cell k => rfl
  | cart n => rfl
  | boot n => rfl
  | device n => rfl
  | void => rfl

/-- Settles O26: what blocks OAM by its place, the block itself by the engine's own rule. -/
theorem oamBlockedDuringDma : Obligations.OamBlockedDuringDma := by
  refine ⟨fun s a hb h h' => access_void (place_oamBlocked hb h h'), fun s a hb hg h h' => ?_, fun s => rfl,
    fun s v => ?_, fun s d a h => ?_, fun s a hp hl h => access_void (place_gated s ((gated_iff hp hl).2 h)),
    mmuRead_ungated⟩
  · rw [place_eq_region s a hg, region_oam s h h', hb]
    rfl
  · have hp : place s 0xFF46 = .device 0xFF46 := by
      rw [place_io s (by decide) (by decide)]
      cases s.cfg.cgb <;> rfl
    rw [memWrite_device v hp]
    rfl
  · rw [place, region_setDma s d h]
    rfl

/-! ### The passage of time without a transfer (20_memory R115, R120, R121) -/

theorem hdmaActive_eq_false {s : State} (h : s.hdma.inProgress = false) : s.hdmaActive = false := by
  simp [State.hdmaActive, Hdma.active, h]

/-- From `s` to `t` no memory cell changes and not the cartridge, and no transfer starts. -/
structure LeavesMemory (s t : State) : Prop where
  mem : t.mem = s.mem
  cart : t.cart = s.cart
  quiet : t.NoTransfer

theorem LeavesMemory.trans {s t u : State} (h : LeavesMemory s t) (h' : LeavesMemory t u) : LeavesMemory s u :=
  ⟨h'.mem.trans h.mem, h'.cart.trans h.cart, h'.quiet⟩

section
variable {s : State} (h : s.NoTransfer)
include h

theorem leavesMemory_preCpu : LeavesMemory s (preCpu s) := ⟨rfl, rfl, h⟩

theorem leavesMemory_countCycle : LeavesMemory s (countCycle s) := ⟨rfl, rfl, h⟩

/-- The OAM DMA engine is the only agent after the CPU that writes memory, and it is idle. -/
theorem leavesMemory_postCpu : LeavesMemory s (postCpu s) := by
  have hidle : s.dma.tick s.dmaLimit = (s.dma, false) := by simp [Dma.tick, h.1]
  have hdma : dmaTick s = s := by simp only [dmaTick, hidle]; rfl
  have hquiet : LeavesMemory s (dmaTick s) := by rw [hdma]; exact ⟨rfl, rfl, h⟩
  exact ⟨hquiet.mem, hquiet.cart, hquiet.quiet⟩

theorem leavesMemory_toSlot (n : Nat) : LeavesMemory s (toSlot n s) := by
  induction n generalizing s with
  | zero => exact ⟨rfl, rfl, h⟩
  | succ n ih =>
    have hpre := leavesMemory_preCpu h
    have hcount := hpre.trans (leavesMemory_countCycle hpre.quiet)
    have hpost := hcount.trans (leavesMemory_postCpu hcount.quiet)
    simp only [toSlot, hdmaActive_eq_false hpre.quiet.2, Bool.false_eq_true, if_false]
    split
    · exact hcount
    · exact hpost.trans (ih hpost.quiet)

theorem leavesMemory_nextSlot : LeavesMemory s (nextSlot s) := leavesMemory_toSlot h _

theorem leavesMemory_nextCycle : LeavesMemory s (nextCycle s) :=
  have hpost := leavesMemory_postCpu h
  hpost.trans (leavesMemory_nextSlot hpost.quiet)

end

/-- Settles O15: no part of a master tick but the two DMA engines writes memory (`leavesMemory_toSlot`). -/
theorem quietTimeKeepsMemory : Obligations.QuietTimeKeepsMemory := by
  intro s h
  have hcycle := leavesMemory_nextCycle h
  have hslot := leavesMemory_nextSlot h
  have hpost := leavesMemory_postCpu h
  exact ⟨hcycle.mem, hslot.mem, hpost.mem, hcycle.quiet, hcycle.cart, hslot.cart, hpost.cart⟩

/-! ### The length of an M-cycle (40_cpu_fsm R170, R171) -/

/-- While HDMA does not hold the bus, the gated tick comes after the ticks the sub-cycle counter still lacks. -/
theorem toSlot_masterTicks (n : Nat) {s : State} (hh : s.hdma.inProgress = false)
    (hc : s.eng.clockCycle < s.ticksPerCycle) (hn : s.cycleLeft ≤ n) :
    (toSlot n s).masterTicks = s.masterTicks + s.cycleLeft ∧ (toSlot n s).eng.clockCycle = 0 := by
  unfold State.cycleLeft at hn ⊢
  induction n generalizing s with
  | zero => omega
  | succ n ih =>
    have hpre : (preCpu s).hdmaActive = false := hdmaActive_eq_false hh
    simp only [toSlot, hpre, Bool.false_eq_true, if_false]
    by_cases hg : s.ticksPerCycle ≤ s.eng.clockCycle + 1
    · have hgate : (preCpu s).atGate = true := decide_eq_true hg
      rw [if_pos hgate]
      refine ⟨?_, if_pos hgate⟩
      show s.masterTicks + 1 = _
      omega
    · have hgate : (preCpu s).atGate = false := decide_eq_false hg
      have hcount : (countCycle (preCpu s)).eng.clockCycle = s.eng.clockCycle + 1 := by
        show (if (preCpu s).atGate = true then 0 else s.eng.clockCycle + 1) = _
        rw [hgate]
        rfl
      have hclock : (postCpu (countCycle (preCpu s))).eng.clockCycle = s.eng.clockCycle + 1 := hcount
      have htpc : (postCpu (countCycle (preCpu s))).ticksPerCycle = s.ticksPerCycle := rfl
      have hticks : (postCpu (countCycle (preCpu s))).masterTicks = s.masterTicks + 1 := rfl
      have ih' := ih (s := postCpu (countCycle (preCpu s))) hh (by omega) (by omega)
      rw [hclock, htpc, hticks] at ih'
      simp only [hgate, Bool.false_eq_true, if_false]
      exact ⟨ih'.1.trans (by omega), ih'.2⟩

theorem ticksPerCycle_eq (s : State) : s.ticksPerCycle = if s.spd.speed = .normal then 4 else 2 := by
  unfold State.ticksPerCycle
  cases s.spd.speed <;> rfl

theorem nextCycle_masterTicks {s : State} (hh : s.hdma.inProgress = false) (hc : s.eng.clockCycle = 0) :
    (nextCycle s).masterTicks = s.masterTicks + s.ticksPerCycle ∧ (nextCycle s).eng.clockCycle = 0 := by
  have hleft : (postCpu s).cycleLeft = s.ticksPerCycle := by
    show s.ticksPerCycle - s.eng.clockCycle = _
    rw [hc, Nat.sub_zero]
  have hpos : (postCpu s).eng.clockCycle < (postCpu s).ticksPerCycle := by
    show s.eng.clockCycle < s.ticksPerCycle
    rw [hc, ticksPerCycle_eq]
    split <;> decide
  have hslot := toSlot_masterTicks (postCpu s).slotBound (s := postCpu s) hh hpos
    ((cycleLeft_le _).trans (by unfold State.slotBound; omega))
  rw [hleft] at hslot
  exact hslot

theorem nextCycle_eng (s : State) : (nextCycle s).eng = { s.eng with clockCycle := (nextCycle s).eng.clockCycle } :=
  have h : { (nextCycle s).eng with clockCycle := 0 } = { s.eng with clockCycle := 0 } :=
    congrArg Timeless.eng (nextCycle_timeless s)
  congrArg (fun e : Engine => { e with clockCycle := (nextCycle s).eng.clockCycle }) h

/-- Settles O14: the length by the sub-cycle counter (`toSlot_masterTicks`), the frame by what time leaves alone
(`nextCycle_timeless`). -/
theorem mCyclePasses : Obligations.MCyclePasses := by
  refine ⟨fun s hh hc => ?_, fun s => ?_⟩
  · rw [← ticksPerCycle_eq]
    exact nextCycle_masterTicks hh hc
  · exact ⟨nextCycle_regs s, nextCycle_ime s, nextCycle_pendingEnable s, nextCycle_pendingDisable s, nextCycle_speed s,
      nextCycle_cfg s, nextCycle_eng s⟩

end Sys2Proof.Machine

/-! ## A step is a run of master ticks (20_memory R120, R121; 40_cpu_fsm R170 to R185) -/

/-! ### The forms that run as lists of micro-operations, and the opcode bytes that select them (40_cpu_fsm R179) -/

namespace Sys2Proof.Machine

open Decode

/-- Whether a form is run as a list of micro-operations: all but HALT, STOP and the undefined bytes. -/
def Form.listed : Form → Bool
  | .halt => false
  | .stop _ => false
  | .illegal _ => false
  | _ => true

theorem formExec_of_listed {f : Form} (h : f.listed = true) (s : State) : formExec f s = runMicro f.ops s := by
  cases f with
  | halt => cases h
  | stop b => cases h
  | illegal b => cases h
  | _ => rfl

theorem Form.length_ops_le (f : Form) : f.ops.length ≤ 7 := by
  cases f <;> exact Nat.le_of_ble_eq_true rfl

/-- A check of every byte, nibble by nibble. -/
def everyByte (p : Byte → Bool) : Bool :=
  (List.range 16).all fun i => (List.range 16).all fun j => p (BitVec.ofNat 8 (16 * i + j))

theorem of_everyByte {p : Byte → Bool} (h : everyByte p = true) (b : Byte) : p b = true := by
  simp only [everyByte, List.all_eq_true, List.mem_range] at h
  have hb := b.isLt
  have hcell := h (b.toNat / 16) (by omega) (b.toNat % 16) (by omega)
  rwa [Nat.div_add_mod, BitVec.ofNat_toNat, BitVec.setWidth_eq] at hcell

/-- The opcode bytes, but for 0xCB, that select a list whatever follows them: all defined ones but STOP and HALT. -/
theorem decodeBytes_listed {b : Byte} (hu : isUndefined b = false) (h10 : b ≠ 0x10) (h76 : b ≠ 0x76) (hcb : b ≠ 0xCB)
    (p q : Byte) : (form (decodeBytes b p q)).listed = true := by
  have hall : everyByte (fun b => isUndefined b || decide (b = 0x10) || decide (b = 0x76) || decide (b = 0xCB) ||
      (form (decodeBytes b p q)).listed) = true := rfl
  have hb := of_everyByte hall b
  simpa only [hu, decide_eq_false h10, decide_eq_false h76, decide_eq_false hcb, Bool.false_or] using hb

/-- Every byte after 0xCB selects a list. -/
theorem decodeBytes_cb_listed (p q : Byte) : (form (decodeBytes 0xCB p q)).listed = true := by
  have hall : everyByte (fun p => (form (decodeBytes 0xCB p q)).listed) = true := rfl
  exact of_everyByte hall p

theorem form_undefined {b : Byte} (h : isUndefined b = true) (p q : Byte) : form (decodeBytes b p q) = .illegal b := by
  have hall : ∀ b : Byte, isUndefined b = true → form (decodeBytes b 0 0) = .illegal b := by decide
  have hsame : decodeBytes b p q = decodeBytes b 0 0 := by
    unfold isUndefined at h
    unfold decodeBytes
    cases hb : baseEntry b <;> simp [hb] at h ⊢
  rw [hsame, hall b h]

theorem hasSecondOpcode_iff : ∀ b : Byte, hasSecondOpcode b = true ↔ b = 0x10 ∨ b = 0xCB := by decide

/-! ### Where the tick loop can be relied on

`nextSlot` gives the next gated tick as long as an HDMA transfer keeps to its window (log 15), and a machine that is not
faulted finishes its master ticks (log 8). Every operation but the exception keeps both. -/

/-- The machine is not faulted and an HDMA transfer is within its window. -/
structure State.OnTrack (s : State) : Prop where
  hdma : s.HdmaWithin
  running : s.eng.faulted = none

namespace State.OnTrack

variable {s t : State}

/-- An update of anything else. -/
theorem of_eq (h : s.OnTrack) (hh : t.hdma = s.hdma) (hc : t.cfg = s.cfg) (hf : t.eng.faulted = s.eng.faulted) :
    t.OnTrack := by
  refine ⟨?_, hf.trans h.running⟩
  unfold State.HdmaWithin
  rw [hh, hc]
  exact h.hdma

theorem memWrite (h : s.OnTrack) (a : Word) (v : Byte) : (Machine.memWrite s a v).OnTrack :=
  ⟨HdmaWithin_writeAt h.hdma _ v, (congrArg Engine.faulted (memWrite_eng s a v)).trans h.running⟩

theorem pushByte (h : s.OnTrack) (v : Byte) : (Machine.pushByte s v).OnTrack :=
  memWrite (s := s.setRegs { s.regs with sp := s.regs.sp - 1 }) (h.of_eq rfl rfl rfl) _ v

theorem oamBug (h : s.OnTrack) (k : Option OamCause) : (Machine.oamBug k s).OnTrack := by
  obtain ⟨m, hm⟩ := oamBug_cases k s
  rw [hm]
  exact h.of_eq rfl rfl rfl

theorem run (h : s.OnTrack) (op : MicroOp) : (op.run s).OnTrack := by
  cases op with
  | wr am => exact h.memWrite _ _
  | wr16Lo a => exact h.memWrite _ _
  | wr16Hi a => exact h.memWrite _ _
  | pushHi => exact h.pushByte _
  | pushLo => exact h.pushByte _
  | _ => exact h.of_eq rfl rfl rfl

theorem microStep (h : s.OnTrack) (op : MicroOp) : (op.step s).OnTrack :=
  have hindex : (s.setOpIndex (s.eng.opIndex + 1)).OnTrack := h.of_eq rfl rfl rfl
  (hindex.oamBug _).run op

theorem postCpu (h : s.OnTrack) : (Machine.postCpu s).OnTrack := ⟨HdmaWithin_postCpu h.hdma, h.running⟩

theorem toSlot (h : s.OnTrack) (n : Nat) : (Machine.toSlot n s).OnTrack := by
  refine ⟨?_, (congrArg (fun t => t.eng.faulted) (toSlot_timeless n s)).trans h.running⟩
  have hw := h.hdma
  clear h
  induction n generalizing s with
  | zero => exact hw
  | succ n ih =>
    simp only [Machine.toSlot]
    split
    · next ha =>
      simp only [State.hdmaActive, Hdma.active, Bool.and_eq_true] at ha
      obtain ⟨hc, hp, -⟩ := ha
      exact ih (HdmaWithin_postCpu (HdmaWithin_hdmaTick (HdmaWithin_preCpu hw) hc hp))
    · split
      · exact HdmaWithin_countCycle (HdmaWithin_preCpu hw)
      · exact ih (HdmaWithin_postCpu (HdmaWithin_countCycle (HdmaWithin_preCpu hw)))

theorem nextSlot (h : s.OnTrack) : (Machine.nextSlot s).OnTrack := h.toSlot _

theorem nextCycle (h : s.OnTrack) : (Machine.nextCycle s).OnTrack := h.postCpu.nextSlot

theorem leaveStopped (h : s.OnTrack) : (Machine.leaveStopped s).OnTrack := by
  unfold Machine.leaveStopped
  split
  · exact h.of_eq rfl rfl rfl
  · exact h

theorem irqReadIe (h : s.OnTrack) : (Machine.irqReadIe s).OnTrack := by
  unfold Machine.irqReadIe irqAcknowledge
  dsimp only
  split <;> exact h.of_eq rfl rfl rfl

theorem irqPush1 (h : s.OnTrack) : (Machine.irqPush1 s).OnTrack := (h.pushByte _).of_eq rfl rfl rfl

theorem irqPush2 (h : s.OnTrack) : (Machine.irqPush2 s).OnTrack := (h.pushByte _).of_eq rfl rfl rfl

end State.OnTrack

/-! ### From one gated tick to a later one -/

theorem ticks_add (n m : Nat) (s : State) : ticks (n + m) s = ticks m (ticks n s) := by
  induction m with
  | zero => rfl
  | succ m ih => rw [← Nat.add_assoc, ticks_succ, ticks_succ, ih]

theorem stopFlag_iterate_tick (n : Nat) {c : Clock} (h : c.stopFlag = true) : (Clock.tick^[n] c).stopFlag = true := by
  induction n generalizing c with
  | zero => exact h
  | succ n ih =>
    rw [Function.iterate_succ_apply]
    refine ih ?_
    show (c.stopFlag || _) = true
    rw [h]
    rfl

/-- The stop flag, once set, stays. -/
theorem Reaches.stopFlag {s t : State} (h : Reaches s t) (ht : t.host.stopFlag = false) : s.host.stopFlag = false := by
  obtain ⟨n, hk⟩ := h
  rw [Bool.eq_false_iff] at ht ⊢
  exact fun hs => ht ((congrArg Clock.stopFlag hk.clock).trans (stopFlag_iterate_tick n hs))

theorem stopFlag_endTick (s : State) : (endTick s).host.stopFlag = s.host.stopFlag := by
  unfold endTick
  split
  · rfl
  · exact stopFlag_postCpu s

/-- `x` and `y` are two states at the end of a gated tick, and whole master ticks lead from the rest of the master tick
of `x` to the rest of that of `y`, unless the host stops the machine in between. -/
structure Continues (x y : State) : Prop where
  reaches : Reaches x y
  ticks : y.host.stopFlag = false → ∃ n, ticks n (endTick x) = endTick y

theorem Continues.refl (x : State) : Continues x x := ⟨(Keeps.refl x).reaches, fun _ => ⟨0, rfl⟩⟩

theorem Continues.of_eq {x y : State} (h : x = y) : Continues x y := h ▸ .refl x

theorem Continues.trans {x y z : State} (h : Continues x y) (h' : Continues y z) : Continues x z := by
  refine ⟨h.reaches.trans h'.reaches, fun hz => ?_⟩
  obtain ⟨n, hn⟩ := h.ticks (h'.reaches.stopFlag hz)
  obtain ⟨m, hm⟩ := h'.ticks hz
  exact ⟨n + m, by rw [ticks_add, hn, hm]⟩

/-- From a gated tick the machine goes on to the next one. -/
theorem continues_gatedTick {x : State} (h : x.OnTrack) : Continues x (gatedTick (nextCycle x)) := by
  have hgated := (keeps_gatedTick (nextCycle x)).reaches
  refine ⟨(reaches_nextCycle x).trans hgated, fun hs => ?_⟩
  have hend : endTick x = postCpu x := by simp [endTick, h.running]
  rw [hend]
  exact ticks_to_slot (postCpu x) h.postCpu.hdma h.postCpu.running (hgated.stopFlag hs)

/-! ### A list of micro-operations in the tick loop (40_cpu_fsm R180 to R185) -/

theorem run_eng (op : MicroOp) (s : State) : (op.run s).eng = { s.eng with ctx := (op.run s).eng.ctx } := by
  cases op with
  | wr am => simp only [run_wr, memWrite_eng]
  | wr16Lo a => simp only [run_wr16Lo, memWrite_eng]
  | wr16Hi a => simp only [run_wr16Hi, memWrite_eng]
  | pushHi => simp only [run_pushHi, withCpu_eng, memWrite_eng]
  | pushLo => simp only [run_pushLo, withCpu_eng, memWrite_eng]
  | _ => rfl

/-- Of the engine a micro-operation changes its own temporaries only. -/
theorem microStep_eng (op : MicroOp) (s : State) :
    (op.step s).eng = { s.eng with opIndex := s.eng.opIndex + 1, ctx := (op.step s).eng.ctx } := by
  rw [MicroOp.step, run_eng, oamBug_eng]
  rfl

/-- The engine is running an entry's list and the operations `rest` of it are still to come. -/
structure State.RunsList (rest : List MicroOp) (s : State) : Prop where
  onTrack : s.OnTrack
  fsm : s.eng.fsm = .running
  notStop : s.eng.opcode1 ≠ 0x10
  notHalt : s.eng.opcode1 ≠ 0x76
  suffix : ∃ done, s.eng.ops = done ++ rest ∧ s.eng.opIndex = done.length

namespace State.RunsList

variable {s : State} {op : MicroOp} {rest : List MicroOp}

theorem nextCycle (h : s.RunsList rest) : (Machine.nextCycle s).RunsList rest := by
  obtain ⟨done, hops, hindex⟩ := h.suffix
  have heng := nextCycle_eng s
  refine ⟨h.onTrack.nextCycle, (nextCycle_fsm s).trans h.fsm, ?_, ?_, done, ?_, (nextCycle_opIndex s).trans hindex⟩
  · rw [nextCycle_opcode1]; exact h.notStop
  · rw [nextCycle_opcode1]; exact h.notHalt
  · rw [heng]; exact hops

theorem step (h : s.RunsList (op :: rest)) : (op.step s).RunsList rest := by
  obtain ⟨done, hops, hindex⟩ := h.suffix
  have heng := microStep_eng op s
  refine ⟨h.onTrack.microStep op, by rw [heng]; exact h.fsm, by rw [heng]; exact h.notStop,
    by rw [heng]; exact h.notHalt, done ++ [op], ?_, ?_⟩
  · rw [heng]
    exact hops.trans (by simp)
  · rw [heng]
    simp [hindex]

theorem gatedLoop_nil (h : s.RunsList []) (n : Nat) (b : Bool) : gatedLoop (n + 1) b s = finish s := by
  obtain ⟨done, hops, hindex⟩ := h.suffix
  have hend : s.eng.ops[s.eng.opIndex]? = none := by simp [hops, hindex]
  rw [gatedLoop]
  simp only [h.fsm, h.notStop, h.notHalt, if_false, hend]

/-- One round of the loop, as the rule has it: an operation for which the slot is taken waits. -/
theorem gatedLoop_cons (h : s.RunsList (op :: rest)) (n : Nat) (b : Bool) :
    gatedLoop (n + 1) b s =
      if b && op.mem then s
      else if !op.proceeds s then finish ((op.step s).setOpIndex s.eng.ops.length)
      else if op.isFin then op.step s
      else gatedLoop n (b || op.mem) (op.step s) := by
  obtain ⟨done, hops, hindex⟩ := h.suffix
  have hnext : s.eng.ops[s.eng.opIndex]? = some op := by simp [hops, hindex]
  rw [gatedLoop]
  simp only [h.fsm, h.notStop, h.notHalt, if_false, hnext]

end State.RunsList

/-- In a state that accepts no interrupt and does not wait, a gated tick is the loop. -/
theorem gatedTick_busy {s : State} (h : s.eng.fsm = .running ∨ s.eng.fsm = .operand ∨ s.eng.fsm = .extOpcode) :
    gatedTick s = gatedLoop gatedFuel false s := by
  rcases h with h | h | h <;> simp [gatedTick, State.acceptsInterrupt, gatedStep, h, Fsm.idle]

/-- An operation of a list for which the slot is taken starts over in the next M-cycle with the slot free. -/
theorem runOps_wait {op : MicroOp} (h : op.mem = true) (rest : List MicroOp) (s : State) :
    runOps true (op :: rest) s = runOps false (op :: rest) (nextCycle s) := by simp [runOps, h]

/-- The tick loop runs a list as `runOps` does, an M-cycle passing wherever `runOps` lets one pass. -/
theorem continues_runOps (rest : List MicroOp) (n : Nat) (b : Bool) {s : State} (h : s.RunsList rest)
    (hn : rest.length < n) (hfuel : rest.length < gatedFuel) : Continues (gatedLoop n b s) (runOps b rest s) := by
  induction rest generalizing n b s with
  | nil =>
    obtain ⟨n, rfl⟩ := Nat.exists_eq_succ_of_ne_zero (Nat.ne_of_gt hn)
    exact .of_eq (h.gatedLoop_nil n b)
  | cons op rest ih =>
    rw [List.length_cons] at hn hfuel
    have hfree (n : Nat) (b : Bool) {s : State} (h : s.RunsList (op :: rest)) (hslot : (b && op.mem) = false)
        (hn : rest.length < n) : Continues (gatedLoop (n + 1) b s) (runOps b (op :: rest) s) := by
      rw [h.gatedLoop_cons n b]
      unfold runOps
      simp only [hslot, Bool.false_eq_true, if_false]
      split
      · obtain ⟨done, hops, hindex⟩ := h.suffix
        have hlen : s.eng.ops.length = (op.step s).eng.opIndex + rest.length := by
          rw [microStep_eng, hops]
          simp [hindex]
          omega
        exact .of_eq (by rw [hlen])
      · split
        · have hnext := continues_gatedTick h.step.onTrack
          rw [gatedTick_busy (.inl h.step.nextCycle.fsm)] at hnext
          exact hnext.trans (ih _ _ h.step.nextCycle (by omega) (by omega))
        · exact ih n _ h.step hn (by omega)
    obtain ⟨n, rfl⟩ := Nat.exists_eq_succ_of_ne_zero (Nat.ne_of_gt (Nat.zero_lt_of_lt hn))
    cases hslot : b && op.mem with
    | false => exact hfree n b h hslot (by omega)
    | true =>
      rw [Bool.and_eq_true] at hslot
      obtain ⟨rfl, hmem⟩ := hslot
      have hwait : gatedLoop (n + 1) true s = s := by rw [h.gatedLoop_cons, hmem]; rfl
      have hnext := continues_gatedTick h.onTrack
      rw [gatedTick_busy (.inl h.nextCycle.fsm)] at hnext
      rw [hwait, runOps_wait hmem]
      exact hnext.trans (hfree 15 false h.nextCycle rfl (Nat.lt_of_succ_lt_succ hfuel))

/-! ### Fetching in the tick loop (40_cpu_fsm R175 to R178) -/

section
variable {s : State} (n : Nat)

theorem gatedLoop_opcode (h : s.eng.fsm = .opcode) (b : Bool) :
    gatedLoop (n + 1) b s =
      if isUndefined (fetchOpcode s).eng.opcode1 then raiseUnknownOpcode (fetchOpcode s).eng.opcode1 (fetchOpcode s)
      else gatedLoop n true (fetchOpcode s) := by
  rw [gatedLoop]
  simp only [h]

theorem gatedLoop_extOpcode (h : s.eng.fsm = .extOpcode) (b : Bool) :
    gatedLoop (n + 1) b s = if b then s else gatedLoop n true (fetchSecond s) := by
  rw [gatedLoop]
  simp only [h]

theorem gatedLoop_operand (h : s.eng.fsm = .operand) (b : Bool) :
    gatedLoop (n + 1) b s =
      if s.eng.operandIndex < s.eng.operandCount then (if b then s else gatedLoop n true (fetchOperand s))
      else gatedLoop n b (s.setFsm .running) := by
  rw [gatedLoop]
  simp only [h]

theorem gatedLoop_stop (h : s.eng.fsm = .running) (h10 : s.eng.opcode1 = 0x10) (b : Bool) :
    gatedLoop (n + 1) b s = stop s := by
  rw [gatedLoop]
  simp only [h, if_pos h10]

theorem gatedLoop_halt (h : s.eng.fsm = .running) (h76 : s.eng.opcode1 = 0x76) (b : Bool) :
    gatedLoop (n + 1) b s = halt s := by
  have h10 : ¬ s.eng.opcode1 = 0x10 := by rw [h76]; decide
  rw [gatedLoop]
  simp only [h, if_neg h10, if_pos h76]

end

/-- The operand bytes still to come, one per M-cycle, then state RUNNING with the slot taken. -/
theorem continues_fetchOperands (k : Nat) {s : State} (h : s.OnTrack) (hf : s.eng.fsm = .operand)
    (hk : s.eng.operandIndex + k = s.eng.operandCount) :
    Continues (gatedLoop 15 true s) (gatedLoop 14 true ((fetchOperands k s).setFsm .running)) := by
  induction k generalizing s with
  | zero =>
    have hdone : ¬ s.eng.operandIndex < s.eng.operandCount := by omega
    exact .of_eq ((gatedLoop_operand 14 hf true).trans (if_neg hdone))
  | succ k ih =>
    have hmore : s.eng.operandIndex < s.eng.operandCount := by omega
    have hwait : gatedLoop 15 true s = s := by simp only [gatedLoop_operand 14 hf, if_pos hmore, if_true]
    have hf' : (nextCycle s).eng.fsm = .operand := (nextCycle_fsm s).trans hf
    have hcount : (nextCycle s).eng.operandCount = s.eng.operandCount := by rw [nextCycle_eng]; rfl
    have hread : gatedTick (nextCycle s) = gatedLoop 15 true (fetchOperand (nextCycle s)) := by
      rw [gatedTick_busy (.inr (.inl hf')), gatedFuel, gatedLoop_operand 15 hf', nextCycle_operandIndex, hcount,
        if_pos hmore]
      rfl
    have hnext := continues_gatedTick h
    rw [hread] at hnext
    rw [hwait]
    refine hnext.trans (ih (h.nextCycle.of_eq rfl rfl rfl) hf' ?_)
    show (nextCycle s).eng.operandIndex + 1 + k = (nextCycle s).eng.operandCount
    rw [nextCycle_operandIndex, hcount]
    omega

/-- The state RUNNING after the bytes of an instruction with the defined opcode byte `b`: what the latches hold. -/
structure Fetched (b : Byte) (u : State) : Prop where
  onTrack : u.OnTrack
  fsm : u.eng.fsm = .running
  opcode1 : u.eng.opcode1 = b
  opIndex : u.eng.opIndex = 0
  entry : (b ≠ 0xCB ∧ u.eng.entry = some (.base b)) ∨ (b = 0xCB ∧ u.eng.entry = some (.cb u.eng.opcode2))

/-- Operand bytes leave the opcode latches alone. -/
theorem fetched_fetchOperands (k : Nat) {b : Byte} {s : State} (h : s.OnTrack) (hb : s.eng.opcode1 = b)
    (hi : s.eng.opIndex = 0) (hcb : b ≠ 0xCB) (he : s.eng.entry = some (.base b)) :
    Fetched b ((fetchOperands k s).setFsm .running) := by
  induction k generalizing s with
  | zero => exact ⟨h.of_eq rfl rfl rfl, rfl, hb, hi, .inl ⟨hcb, he⟩⟩
  | succ k ih =>
    exact ih (s := fetchOperand (nextCycle s)) (h.nextCycle.of_eq rfl rfl rfl) ((nextCycle_opcode1 s).trans hb)
      ((nextCycle_opIndex s).trans hi) ((nextCycle_entry s).trans he)

/-- The entry after the second byte: one of the table after 0xCB if the first byte selected none. -/
theorem fetchSecond_entry (s : State) :
    (fetchSecond (nextCycle s)).eng.entry =
      if s.eng.entry.isNone then some (.cb (fetchSecond (nextCycle s)).eng.opcode2) else s.eng.entry := by
  rw [← nextCycle_entry s]
  rfl

/-- The second byte of STOP and of the instructions after 0xCB, in its own M-cycle; no operand bytes follow. -/
theorem continues_fetchSecond {s : State} (h : s.OnTrack) (hf : s.eng.fsm = .extOpcode) (hi : s.eng.opIndex = 0)
    (he : s.eng.opcode1 = 0x10 ∧ s.eng.entry = some (.base 0x10) ∨ s.eng.opcode1 = 0xCB ∧ s.eng.entry = none) :
    Continues (gatedLoop 15 true s) (gatedLoop 14 true ((fetchSecond (nextCycle s)).setFsm .running)) ∧
    Fetched s.eng.opcode1 ((fetchSecond (nextCycle s)).setFsm .running) := by
  have hf' : (nextCycle s).eng.fsm = .extOpcode := (nextCycle_fsm s).trans hf
  have hentry := fetchSecond_entry s
  have hcount : (fetchSecond (nextCycle s)).eng.operandCount = 0 := by
    rw [Engine.operandCount, hentry]
    rcases he with ⟨-, he⟩ | ⟨-, he⟩ <;> rw [he] <;> rfl
  have hread : gatedTick (nextCycle s) = gatedLoop 14 true ((fetchSecond (nextCycle s)).setFsm .running) := by
    rw [gatedTick_busy (.inr (.inr hf')), gatedFuel, gatedLoop_extOpcode 15 hf', if_neg Bool.false_ne_true,
      gatedLoop_operand 14 rfl, hcount, if_neg (Nat.not_lt_zero _)]
  have hnext := continues_gatedTick h
  rw [hread] at hnext
  rw [gatedLoop_extOpcode 14 hf, if_pos rfl]
  refine ⟨hnext, h.nextCycle.of_eq rfl rfl rfl, rfl, nextCycle_opcode1 s, (nextCycle_opIndex s).trans hi, ?_⟩
  show s.eng.opcode1 ≠ 0xCB ∧ (fetchSecond (nextCycle s)).eng.entry = _ ∨ _ ∧ (fetchSecond (nextCycle s)).eng.entry = _
  rw [hentry]
  rcases he with ⟨hb, he⟩ | ⟨hb, he⟩ <;> rw [he, hb]
  · exact .inl ⟨by decide, rfl⟩
  · exact .inr ⟨rfl, rfl⟩

/-- What the opcode byte leaves in the engine where it is defined (40_cpu_fsm R175). -/
theorem fetchOpcode_fsm {s : State} (hu : isUndefined (fetchOpcode s).eng.opcode1 = false) :
    (fetchOpcode s).eng.fsm = if hasSecondOpcode (fetchOpcode s).eng.opcode1 then .extOpcode else .operand :=
  if_neg (Bool.eq_false_iff.1 hu)

/-- The fetch of a defined opcode byte's instruction, in the tick loop as in `fetch`. -/
theorem continues_fetch {s : State} (h : s.OnTrack) (hf : s.eng.fsm = .opcode)
    (hu : isUndefined (fetchOpcode s).eng.opcode1 = false) :
    Continues (gatedLoop gatedFuel false s) (gatedLoop 14 true (fetch s)) ∧
    Fetched (fetchOpcode s).eng.opcode1 (fetch s) := by
  have ht : (fetchOpcode s).OnTrack := h.of_eq rfl rfl rfl
  have hfsm := fetchOpcode_fsm hu
  have hentry : (fetchOpcode s).eng.entry = entryOf (fetchOpcode s).eng.opcode1 := rfl
  have hindex : (fetchOpcode s).eng.opIndex = 0 := rfl
  have hoperand : (fetchOpcode s).eng.operandIndex = 0 := rfl
  rw [gatedFuel, gatedLoop_opcode 15 hf, fetch, fetchRest]
  generalize fetchOpcode s = t at *
  simp only [hu, Bool.false_eq_true, if_false]
  cases hsec : hasSecondOpcode t.eng.opcode1 with
  | true =>
    refine continues_fetchSecond ht (hfsm.trans (if_pos hsec)) hindex ?_
    rcases (hasSecondOpcode_iff _).1 hsec with hb | hb <;> rw [hentry, hb]
    · exact .inl ⟨rfl, rfl⟩
    · exact .inr ⟨rfl, rfl⟩
  | false =>
    have hcb : t.eng.opcode1 ≠ 0xCB := fun hb => by
      rw [hb] at hsec
      cases hsec
    have he : t.eng.entry = some (.base t.eng.opcode1) :=
      hentry.trans (if_neg (not_or.2 ⟨hcb, Bool.eq_false_iff.1 hu⟩))
    have hcount : t.eng.operandIndex + operandLength t.eng.opcode1 = t.eng.operandCount := by
      rw [hoperand, Nat.zero_add, Engine.operandCount, he]
    exact ⟨continues_fetchOperands _ ht (hfsm.trans (if_neg (Bool.eq_false_iff.1 hsec))) hcount,
      fetched_fetchOperands _ ht rfl hindex hcb he⟩

/-! ### One instruction in the tick loop -/

section
variable {b : Byte} {u : State} (h : Fetched b u)
include h

/-- The operations in the latches are those of the instruction whose bytes they hold. -/
theorem Fetched.ops_eq (h10 : b ≠ 0x10) : u.eng.ops = (form u.eng.instr).ops := by
  unfold Engine.ops Engine.instr
  rcases h.entry with ⟨hcb, he⟩ | ⟨hcb, he⟩
  · have hsec : hasSecondOpcode b = false := by
      rw [Bool.eq_false_iff, Ne, hasSecondOpcode_iff]
      exact not_or.2 ⟨h10, hcb⟩
    rw [he, h.opcode1, hsec]
    rfl
  · rw [he, h.opcode1, hcb]
    rfl

theorem Fetched.instr_listed (hu : isUndefined b = false) (h10 : b ≠ 0x10) (h76 : b ≠ 0x76) :
    (form u.eng.instr).listed = true := by
  unfold Engine.instr
  rw [h.opcode1]
  by_cases hcb : b = 0xCB
  · subst hcb
    exact decodeBytes_cb_listed _ _
  · exact decodeBytes_listed hu h10 h76 hcb _ _

/-- The meaning of a fetched instruction is what the tick loop makes of it: STOP and HALT at once, a list operation by
operation. -/
theorem Fetched.continues_exec (hu : isUndefined b = false) :
    ∃ y, exec u.eng.instr u = .next y ∧ Continues (gatedLoop 14 true u) y := by
  by_cases h10 : b = 0x10
  · have hform : form u.eng.instr = .stop u.eng.opcode2 := by rw [Engine.instr, h.opcode1, h10]; rfl
    exact ⟨stop u, exec_of_form hform u, .of_eq (gatedLoop_stop 13 h.fsm (h.opcode1.trans h10) true)⟩
  by_cases h76 : b = 0x76
  · have hform : form u.eng.instr = .halt := by rw [Engine.instr, h.opcode1, h76]; rfl
    exact ⟨halt u, exec_of_form hform u, .of_eq (gatedLoop_halt 13 h.fsm (h.opcode1.trans h76) true)⟩
  have hruns : u.RunsList (form u.eng.instr).ops :=
    ⟨h.onTrack, h.fsm, by rwa [h.opcode1], by rwa [h.opcode1], [], h.ops_eq h10, h.opIndex⟩
  have hlen := (form u.eng.instr).length_ops_le
  refine ⟨_, (exec_form _ u).trans (formExec_of_listed (h.instr_listed hu h10 h76) u), ?_⟩
  exact continues_runOps _ 14 true hruns (by omega) (by unfold gatedFuel; omega)

end

/-- One instruction, from the gated tick of its opcode byte, in the tick loop and as `runInstruction`. -/
theorem continues_runInstruction {s : State} (h : s.OnTrack) (hf : s.eng.fsm = .opcode) :
    ∃ y, runInstruction s = .next (endTick y) ∧ Continues (gatedLoop gatedFuel false s) y := by
  cases hu : isUndefined (fetchOpcode s).eng.opcode1 with
  | true =>
    have hfetch : fetch s = fetchOpcode s := if_pos hu
    have hform : form (fetchOpcode s).eng.instr = .illegal (fetchOpcode s).eng.opcode1 := form_undefined hu _ _
    refine ⟨raiseUnknownOpcode (fetchOpcode s).eng.opcode1 (fetchOpcode s), ?_, .of_eq ?_⟩
    · rw [runInstruction, hfetch, exec_of_form hform]
      rfl
    · rw [gatedFuel, gatedLoop_opcode 15 hf, if_pos hu]
  | false =>
    obtain ⟨hread, hfetched⟩ := continues_fetch h hf hu
    obtain ⟨y, hexec, hrun⟩ := hfetched.continues_exec hu
    exact ⟨y, by rw [runInstruction, hexec], hread.trans hrun⟩

/-! ### The interrupt sequence in the tick loop (60_exceptions R565 to R570) -/

theorem gatedTick_eq_gatedStep {s : State} (h : s.acceptsInterrupt = false) : gatedTick s = gatedStep s := by
  rw [gatedTick, h]
  rfl

/-- From one state of the sequence to the next. -/
theorem continues_irqStep {s : State} {f : Fsm} (g : State → State) (h : s.OnTrack) (hf : s.eng.fsm = f)
    (hbusy : f.idle = false) (hg : ∀ t : State, t.eng.fsm = f → gatedStep t = g t) : Continues s (g (nextCycle s)) := by
  have hf' : (nextCycle s).eng.fsm = f := (nextCycle_fsm s).trans hf
  have hacc : (nextCycle s).acceptsInterrupt = false := by
    rw [State.acceptsInterrupt, hf', hbusy]
    rfl
  have hnext := continues_gatedTick h
  rwa [gatedTick_eq_gatedStep hacc, hg _ hf'] at hnext

theorem irqReadIe_fsm (s : State) (i : Irq) (h : (irqReadIe s).eng.irqSel = some i) :
    (irqReadIe s).eng.fsm = .irqPush1 := by
  revert h
  unfold irqReadIe irqAcknowledge
  dsimp only
  split
  · next hnone => exact fun h => nomatch hnone.symm.trans h
  · exact fun _ => rfl

theorem continues_takeInterrupt {s : State} (h : s.OnTrack) :
    Continues (irqReadIf s) (takeInterrupt s) ∧ (takeInterrupt s).OnTrack := by
  have hif : (irqReadIf s).OnTrack := h.of_eq rfl rfl rfl
  have hread := continues_irqStep (f := .irqReadIe) irqReadIe hif rfl rfl fun t ht => by rw [gatedStep, ht]
  have hie := hif.nextCycle.irqReadIe
  have hfsm := irqReadIe_fsm (nextCycle (irqReadIf s))
  unfold takeInterrupt
  generalize irqReadIe (nextCycle (irqReadIf s)) = t at *
  dsimp only
  split
  · exact ⟨hread, hie⟩
  · next i hsel =>
    have hpush1 := continues_irqStep (f := .irqPush1) irqPush1 hie (hfsm i hsel) rfl fun t ht => by rw [gatedStep, ht]
    have hp1 := hie.nextCycle.irqPush1
    have hpush2 := continues_irqStep (f := .irqPush2) irqPush2 hp1 rfl rfl fun t ht => by rw [gatedStep, ht]
    have hp2 := hp1.nextCycle.irqPush2
    have hjump := continues_irqStep (f := .irqJump) irqJump hp2 rfl rfl fun t ht => by rw [gatedStep, ht]
    exact ⟨((hread.trans hpush1).trans hpush2).trans hjump, hp2.nextCycle.of_eq rfl rfl rfl⟩

/-! ### One step -/

theorem endTick_of_running {s : State} (h : s.eng.faulted = none) : endTick s = postCpu s := by simp [endTick, h]

/-- The gated tick of a step from an idle state: an interrupt, a waiting M-cycle, waking up, or an instruction. -/
theorem continues_stepAtSlot {s : State} (h : s.OnTrack) (hidle : s.eng.fsm.idle = true) :
    ∃ y, stepAtSlot s = .next (endTick y) ∧ Continues (gatedTick s) y := by
  have hwake : (s.setFsm .opcode).OnTrack := h.of_eq rfl rfl rfl
  unfold stepAtSlot
  cases hacc : s.irq.ime && s.irq.pending with
  | true =>
    obtain ⟨hseq, hend⟩ := continues_takeInterrupt h.leaveStopped
    refine ⟨takeInterrupt (leaveStopped s), by rw [endTick_of_running hend.running, if_pos rfl], ?_⟩
    rwa [gatedTick, State.acceptsInterrupt, hidle, Bool.true_and, hacc, if_pos rfl]
  | false =>
    have hstep : gatedTick s = gatedStep s :=
      gatedTick_eq_gatedStep (by rw [State.acceptsInterrupt, Bool.and_assoc, hacc, Bool.and_false])
    rw [if_neg Bool.false_ne_true, hstep, gatedStep]
    cases hf : s.eng.fsm with
    | opcode => exact continues_runInstruction h hf
    | stopped => exact ⟨s, by rw [endTick_of_running h.running], .refl s⟩
    | halted =>
      dsimp only
      split
      · split
        · exact ⟨s.setFsm .opcode, by rw [endTick_of_running hwake.running], .refl _⟩
        · exact continues_runInstruction hwake rfl
      · exact ⟨s, by rw [endTick_of_running h.running], .refl s⟩
    | _ => rw [hf] at hidle; cases hidle

/-- A master tick runs the agents in their order. -/
theorem machineTick_eq {s : State} (hf : s.eng.faulted = none) (hs : s.host.stopFlag = false) :
    machineTick s = endTick (if (preCpu s).hdmaActive then hdmaTick (preCpu s) else cpuTick (preCpu s)) :=
  if_pos (loops_eq_true.2 ⟨hf, hs⟩)

theorem endTick_eq (s : State) :
    endTick s = if s.eng.faulted = none then ppuTick (serialTick (soundTick (dmaTick s))) else s := by
  unfold endTick
  cases s.eng.faulted <;> rfl

/-- Settles O16: the first gated tick of a step is reached by whole master ticks (`ticks_to_slot`), and from each gated
tick the tick loop goes on as the step does (`continues_stepAtSlot`); a step the host cuts is a run of master ticks by
definition. -/
theorem stepIsMasterTicks : Obligations.StepIsMasterTicks := by
  refine ⟨fun s hf hs => (machineTick_eq hf hs).trans (endTick_eq _), fun s t hw hidle hf hstep => ?_⟩
  have hslot : (nextSlot s).OnTrack := State.OnTrack.nextSlot ⟨hw, hf⟩
  obtain ⟨y, hy, hcont⟩ := continues_stepAtSlot hslot (by rwa [nextSlot_fsm])
  simp only [step, machineStep, hf, hidle, if_true, hy, leaveLoop] at hstep
  split at hstep
  · cases hstep
    exact ⟨0, rfl⟩
  · cases hstep
    cases hs : (endTick y).host.stopFlag with
    | true => exact ⟨_, (untilStopped_ticks s hs).symm⟩
    | false =>
      have hys : y.host.stopFlag = false := (stopFlag_endTick y).symm.trans hs
      have hslots := ((keeps_gatedTick (nextSlot s)).reaches.trans hcont.reaches).stopFlag hys
      obtain ⟨n, hn⟩ := ticks_to_slot s hw hf hslots
      obtain ⟨m, hm⟩ := hcont.ticks hys
      exact ⟨n + m, by rw [ticks_add, hn, hm, untilStopped_live s hs]⟩

end Sys2Proof.Machine


/-! ## Encoding and decoding (30_encoding): the two round trips, and words of the opcode maps -/

/-! ### Decoding what was encoded (30_encoding R131 to R145) -/

namespace Sys2Proof.Laws.RoundTrip

/-- The round trip of every instruction: its own law, in the order of the constructors (those with operand bytes, the
rest of the base table by rows, the table after 0xCB by pairs of rows). -/
theorem statement (i : Instr) : Statement i :=
  Instr.rec (motive := Statement)
    ldBcD16 ldBD8 ldAtA16Sp ldCD8 stop ldDeD16 ldDD8 jrR8 ldED8 jrNzR8 ldHlD16 ldHD8 jrZR8 ldLD8 jrNcR8 ldSpD16
    ldAtHlD8 jrCR8 ldAD8 jpNzA16 jpA16 callNzA16 addD8 jpZA16 callZA16 callA16 adcD8 jpNcA16 callNcA16 subD8 jpCA16
    callCA16 sbcD8 ldhAtA8A andD8 addSpR8 ldAtA16A xorD8 ldhAAtA8 orD8 ldHlSpR8 ldAAtA16 cpD8
    nop ldAtBcA incBc incB decB rlca addHlBc ldAAtBc decBc incC decC rrca
    ldAtDeA incDe incD decD rla addHlDe ldAAtDe decDe incE decE rra
    ldAtHlIncA incHl incH decH daa addHlHl ldAAtHlInc decHl incL decL cpl
    ldAtHlDecA incSp incAtHl decAtHl scf addHlSp ldAAtHlDec decSp incA decA ccf
    ldBB ldBC ldBD ldBE ldBH ldBL ldBAtHl ldBA ldCB ldCC ldCD ldCE ldCH ldCL ldCAtHl ldCA
    ldDB ldDC ldDD ldDE ldDH ldDL ldDAtHl ldDA ldEB ldEC ldED ldEE ldEH ldEL ldEAtHl ldEA
    ldHB ldHC ldHD ldHE ldHH ldHL ldHAtHl ldHA ldLB ldLC ldLD ldLE ldLH ldLL ldLAtHl ldLA
    ldAtHlB ldAtHlC ldAtHlD ldAtHlE ldAtHlH ldAtHlL halt ldAtHlA ldAB ldAC ldAD ldAE ldAH ldAL ldAAtHl ldAA
    addB addC addD addE addH addL addAtHl addA adcB adcC adcD adcE adcH adcL adcAtHl adcA
    subB subC subD subE subH subL subAtHl subA sbcB sbcC sbcD sbcE sbcH sbcL sbcAtHl sbcA
    andB andC andD andE andH andL andAtHl andA xorB xorC xorD xorE xorH xorL xorAtHl xorA
    orB orC orD orE orH orL orAtHl orA cpB cpC cpD cpE cpH cpL cpAtHl cpA
    retNz popBc pushBc rst00 retZ ret rst08
    retNc popDe illegalD3 pushDe rst10 retC reti illegalDB illegalDD rst18
    popHl ldAtCA illegalE3 illegalE4 pushHl rst20 jpAtHl illegalEB illegalEC illegalED rst28
    popAf ldAAtC di illegalF4 pushAf rst30 ldSpHl ei illegalFC illegalFD rst38
    rlcB rlcC rlcD rlcE rlcH rlcL rlcAtHl rlcA rrcB rrcC rrcD rrcE rrcH rrcL rrcAtHl rrcA
    rlB rlC rlD rlE rlH rlL rlAtHl rlA rrB rrC rrD rrE rrH rrL rrAtHl rrA
    slaB slaC slaD slaE slaH slaL slaAtHl slaA sraB sraC sraD sraE sraH sraL sraAtHl sraA
    swapB swapC swapD swapE swapH swapL swapAtHl swapA srlB srlC srlD srlE srlH srlL srlAtHl srlA
    bit0B bit0C bit0D bit0E bit0H bit0L bit0AtHl bit0A bit1B bit1C bit1D bit1E bit1H bit1L bit1AtHl bit1A
    bit2B bit2C bit2D bit2E bit2H bit2L bit2AtHl bit2A bit3B bit3C bit3D bit3E bit3H bit3L bit3AtHl bit3A
    bit4B bit4C bit4D bit4E bit4H bit4L bit4AtHl bit4A bit5B bit5C bit5D bit5E bit5H bit5L bit5AtHl bit5A
    bit6B bit6C bit6D bit6E bit6H bit6L bit6AtHl bit6A bit7B bit7C bit7D bit7E bit7H bit7L bit7AtHl bit7A
    res0B res0C res0D res0E res0H res0L res0AtHl res0A res1B res1C res1D res1E res1H res1L res1AtHl res1A
    res2B res2C res2D res2E res2H res2L res2AtHl res2A res3B res3C res3D res3E res3H res3L res3AtHl res3A
    res4B res4C res4D res4E res4H res4L res4AtHl res4A res5B res5C res5D res5E res5H res5L res5AtHl res5A
    res6B res6C res6D res6E res6H res6L res6AtHl res6A res7B res7C res7D res7E res7H res7L res7AtHl res7A
    set0B set0C set0D set0E set0H set0L set0AtHl set0A set1B set1C set1D set1E set1H set1L set1AtHl set1A
    set2B set2C set2D set2E set2H set2L set2AtHl set2A set3B set3C set3D set3E set3H set3L set3AtHl set3A
    set4B set4C set4D set4E set4H set4L set4AtHl set4A set5B set5C set5D set5E set5H set5L set5AtHl set5A
    set6B set6C set6D set6E set6H set6L set6AtHl set6A set7B set7C set7D set7E set7H set7L set7AtHl set7A i

end Sys2Proof.Laws.RoundTrip

namespace Sys2Proof

/-- Settles O1: the law of the instruction, whose proof is the round trip of its encoding format. -/
theorem decodeEncodeRoundTrip : Obligations.DecodeEncodeRoundTrip :=
  fun i rest hwf => Laws.RoundTrip.statement i hwf rest

/-! ### Encoding what was decoded (30_encoding R133, R134; 47_system R385) -/

/-- A byte read as a displacement is in range. -/
theorem displacementOk_toInt (n : Byte) : displacementOk n.toInt = true := by
  have hlo := n.le_toInt
  have hhi := n.toInt_le
  simp only [displacementOk, Bool.and_eq_true, decide_eq_true_eq]
  omega

/-- Encoding the instruction of a table entry, with the operand its format reads, gives the opcode byte `b` and that
operand (R134); the instruction is well-formed if its displacement is. -/
def BaseEntry.EncodesAs (b n : Byte) (e : Int) (nn : Word) : BaseEntry → Prop
  | .plain i => encode i = [b] ∧ i.wf = true
  | .imm8 mk => encode (mk n) = [b, n] ∧ (mk n).wf = true
  | .rel mk => encode (mk e) = [b, BitVec.ofInt 8 e] ∧ (mk e).wf = displacementOk e
  | .imm16 mk => encode (mk nn) = [b, Machine.loByte nn, Machine.hiByte nn] ∧ (mk nn).wf = true
  | .stop => encode (.stop n) = [b, n] ∧ (Instr.stop n).wf = true
  | .cb => encode (Decode.cbEntry n) = [b, n] ∧ (Decode.cbEntry n).wf = true
  | .undefined i => encode i = [b] ∧ i.wf = true

namespace Decode

theorem encode_cbEntry (n : Byte) : encode (cbEntry n) = [0xCB, n] ∧ (cbEntry n).wf = true := by
  have hall : Machine.everyByte (fun n => encode (cbEntry n) == [0xCB, n] && (cbEntry n).wf) = true := rfl
  simpa only [Bool.and_eq_true, beq_iff_eq] using Machine.of_everyByte hall n

/-- The base table agrees with the encoder, entry by entry; entry 0xCB (the goal picked below) stands for the table
of second bytes. -/
theorem baseEntry_encodesAs (b n : Byte) (e : Int) (nn : Word) : (baseEntry b).EncodesAs b n e nn := by
  have hall : ∀ k < 256, (baseEntry (BitVec.ofNat 8 k)).EncodesAs (BitVec.ofNat 8 k) n e nn := by
    intro k hk
    interval_cases k
    pick_goal 0xCC
    · exact encode_cbEntry n
    all_goals exact And.intro rfl rfl
  simpa using hall b.toNat b.isLt

/-- The instruction that three bytes begin with encodes to as many of them as its opcode byte asks for. -/
theorem encode_decodeBytes (b p q : Byte) :
    encode (decodeBytes b p q) = b :: [p, q].take (tailLength b) ∧ (decodeBytes b p q).wf = true := by
  have h := baseEntry_encodesAs b p p.toInt (Machine.joinBytes q p)
  unfold decodeBytes tailLength
  generalize baseEntry b = entry at h ⊢
  cases entry with
  | rel mk =>
    obtain ⟨henc, hwf⟩ := h
    rw [BitVec.ofInt_toInt] at henc
    exact ⟨henc, hwf.trans (displacementOk_toInt p)⟩
  | imm16 mk =>
    obtain ⟨henc, hwf⟩ := h
    rw [Machine.loByte_joinBytes, Machine.hiByte_joinBytes] at henc
    exact ⟨henc, hwf⟩
  | _ => exact h

theorem tailLength_cases (b : Byte) : tailLength b = 0 ∨ tailLength b = 1 ∨ tailLength b = 2 := by
  unfold tailLength
  cases baseEntry b <;> simp

end Decode

/-- All that `decode` can answer: the instruction of the first bytes, and the bytes after its own. -/
theorem decode_cases {bytes rest : List Byte} {i : Instr} (h : decode bytes = .ok (i, rest)) :
    ∃ b p q, i = Decode.decodeBytes b p q ∧ bytes = b :: [p, q].take (Decode.tailLength b) ++ rest := by
  match bytes with
  | [] => cases h
  | b :: tail =>
    obtain ht | ht | ht := Decode.tailLength_cases b
    · rw [decode_tail0 ht] at h
      cases h
      exact ⟨b, 0, 0, rfl, by rw [ht]; rfl⟩
    · match tail with
      | [] => simp [decode, ht] at h
      | p :: _ =>
        rw [decode_tail1 ht] at h
        cases h
        exact ⟨b, p, 0, rfl, by rw [ht]; rfl⟩
    · match tail with
      | [] => simp [decode, ht] at h
      | [_] => simp [decode, ht] at h
      | p :: q :: _ =>
        rw [decode_tail2 ht] at h
        cases h
        exact ⟨b, p, q, rfl, by rw [ht]; rfl⟩

/-- Settles O2: the bytes read (`decode_cases`) are those the encoder gives back (`Decode.encode_decodeBytes`), and no
opcode byte asks for more than two bytes after it (`Decode.tailLength_cases`). -/
theorem encodeDecodeRoundTrip : Obligations.EncodeDecodeRoundTrip := by
  refine ⟨fun bytes rest i h => ?_, fun b0 b1 b2 rest => ?_⟩
  · obtain ⟨b, p, q, rfl, rfl⟩ := decode_cases h
    obtain ⟨henc, hwf⟩ := Decode.encode_decodeBytes b p q
    exact ⟨by rw [henc], hwf⟩
  · obtain ht | ht | ht := Decode.tailLength_cases b0
    · exact ⟨_, _, decode_tail0 ht _⟩
    · exact ⟨_, _, decode_tail1 ht _ _⟩
    · exact ⟨_, _, decode_tail2 ht _ _ _⟩

/-! ### Words of the opcode maps (30_encoding R139 to R145) -/

/-- Settles O3: each word by the number of bytes its opcode byte asks for, and its entry in the tables. -/
theorem specWordsDecode : Obligations.SpecWordsDecode :=
  ⟨decode_tail0 rfl _, decode_tail1 rfl _ _, decode_tail2 rfl _ _ _, decode_tail2 rfl _ _ _, decode_tail1 rfl _ _,
    decode_tail1 rfl _ _, decode_tail0 rfl _, decode_tail0 rfl _, decode_tail0 rfl _, decode_tail0 rfl _,
    decode_tail1 rfl _ _, decode_tail2 rfl _ _ _, decode_tail0 rfl _, decode_tail1 rfl _ _, decode_tail1 rfl _ _,
    decode_tail1 rfl _ _, decode_tail1 rfl _ _, decode_tail1 rfl _ _, decode_tail0 rfl _⟩

end Sys2Proof

/-! ## The CPU engine between instructions: the statements of the family 40_cpu_fsm -/

/-! ### The instruction that three bytes begin with (30_encoding R133, R134) -/

namespace Sys2Proof

namespace Decode

/-- The bytes after the opcode byte are those that the engine reads: one in EXT_OPCODE, or the declared operand length in
OPERAND (40_cpu_fsm R175, R178). -/
theorem tailLength_eq (b : Byte) : tailLength b = if hasSecondOpcode b then 1 else operandLength b := by
  unfold tailLength hasSecondOpcode operandLength
  cases baseEntry b <;> rfl

theorem tailLength_undefined {b : Byte} (h : isUndefined b = true) : tailLength b = 0 ∧ hasSecondOpcode b = false := by
  unfold isUndefined at h
  unfold tailLength hasSecondOpcode
  cases hb : baseEntry b <;> simp [hb] at h ⊢

theorem decodeBytes_tail0 {b : Byte} (h : tailLength b = 0) (p q : Byte) : decodeBytes b p q = decodeBytes b 0 0 := by
  unfold tailLength at h
  unfold decodeBytes
  cases hb : baseEntry b <;> simp [hb] at h ⊢

theorem decodeBytes_tail1 {b : Byte} (h : tailLength b = 1) (p q : Byte) : decodeBytes b p q = decodeBytes b p 0 := by
  unfold tailLength at h
  unfold decodeBytes
  cases hb : baseEntry b <;> simp [hb] at h ⊢

/-- Every byte after the opcode byte is encoded. -/
theorem length_encode_decodeBytes (b p q : Byte) : (encode (decodeBytes b p q)).length = tailLength b + 1 := by
  obtain ⟨henc, -⟩ := encode_decodeBytes b p q
  rw [henc]
  obtain ht | ht | ht := tailLength_cases b <;> rw [ht] <;> rfl

end Decode

/-- Three bytes are always enough to decode. -/
theorem decode_three (b p q : Byte) :
    decode [b, p, q] = .ok (Decode.decodeBytes b p q, [p, q].drop (Decode.tailLength b)) := by
  obtain ht | ht | ht := Decode.tailLength_cases b
  · rw [decode_tail0 ht, Decode.decodeBytes_tail0 ht p q, ht]
    rfl
  · rw [decode_tail1 ht, Decode.decodeBytes_tail1 ht p q, ht]
    rfl
  · rw [decode_tail2 ht, ht]
    rfl

end Sys2Proof

/-! ### What a fetch leaves (40_cpu_fsm R175 to R178) -/

namespace Sys2Proof.Machine

open Decode

/-- Where the byte after the opcode byte is read: after the halt bug, at the opcode byte again (47_system R381). -/
def secondPc (u : State) : Word := if u.eng.haltBugMode then u.regs.pc else u.regs.pc + 1

theorem fetchedBytes_eq (u : State) : fetchedBytes u =
    [memRead u u.regs.pc, memRead (nextCycle u) (secondPc u), memRead (nextCycle (nextCycle u)) (secondPc u + 1)] := rfl

/-- `e` is `v` after the fetch of `i`: state RUNNING, nothing executed, the bytes of `i` in the latches. -/
structure Engine.HasFetched (i : Instr) (v e : Engine) : Prop where
  fsm : e.fsm = .running
  haltBugMode : e.haltBugMode = false
  opIndex : e.opIndex = 0
  ctx : e.ctx = 0
  faulted : e.faulted = v.faulted
  irqSel : e.irqSel = v.irqSel
  instr : e.instr = i

/-- After 0xCB and 0x10 the second byte is read as an opcode byte, after the others as an operand (R175, R177). -/
theorem Engine.instr_of_second {e : Engine} (h : hasSecondOpcode e.opcode1 = true) :
    e.instr = decodeBytes e.opcode1 e.opcode2 e.operand1 := by rw [Engine.instr, h, if_pos rfl]

theorem Engine.instr_of_single {e : Engine} (h : hasSecondOpcode e.opcode1 = false) :
    e.instr = decodeBytes e.opcode1 e.operand0 e.operand1 := by rw [Engine.instr, h, if_neg Bool.false_ne_true]

section
variable {u : State}

theorem fetchOpcode_eq_withCpu (hu : isUndefined (memRead u u.regs.pc) = false) :
    fetchOpcode u = u.withCpu { u.regs with pc := secondPc u } (fetchOpcode u).eng := by
  have hregs : (fetchOpcode u).regs = { u.regs with pc := secondPc u } := by
    simp only [fetchOpcode, secondPc, hu, Bool.false_or]
    split <;> rfl
  rw [← hregs]
  rfl

theorem fetchOpcode_haltBugMode (hu : isUndefined (memRead u u.regs.pc) = false) :
    (fetchOpcode u).eng.haltBugMode = false := if_neg (Bool.eq_false_iff.1 hu)

theorem fetchOperand_withCpu (s : State) (r : Regs) (e : Engine) :
    fetchOperand (s.withCpu r e) = s.withCpu { r with pc := r.pc + 1 } (fetchOperand (s.withCpu r e)).eng := rfl

/-- The fetch of a defined instruction: its bytes are read, and pc is past them. -/
theorem fetch_defined {b p q : Byte} (hbytes : fetchedBytes u = [b, p, q]) (hu : isUndefined b = false) :
    Engine.HasFetched (decodeBytes b p q) u.eng (fetch u).eng ∧
      fetch u = (afterBytes (tailLength b) u).withCpu
        { u.regs with pc := secondPc u + BitVec.ofNat 16 (tailLength b) } (fetch u).eng := by
  rw [fetchedBytes_eq] at hbytes
  cases hbytes
  have hbug := fetchOpcode_haltBugMode hu
  have hcode : (fetchOpcode u).eng.opcode1 = memRead u u.regs.pc := rfl
  have htail := tailLength_eq (memRead u u.regs.pc)
  rw [fetch, fetchRest, hcode, hu, if_neg Bool.false_ne_true, fetchOpcode_eq_withCpu hu]
  cases hsec : hasSecondOpcode (memRead u u.regs.pc) with
  | true =>
    rw [hsec, if_pos rfl] at htail
    rw [if_pos rfl, nextCycle_withCpu, htail]
    exact ⟨⟨rfl, hbug, rfl, rfl, rfl, rfl, (Engine.instr_of_second hsec).trans (decodeBytes_tail1 htail _ _).symm⟩, rfl⟩
  | false =>
    rw [hsec, if_neg Bool.false_ne_true] at htail
    rw [if_neg Bool.false_ne_true, ← htail]
    obtain ht | ht | ht := tailLength_cases (memRead u u.regs.pc)
    · rw [ht]
      refine ⟨⟨rfl, hbug, rfl, rfl, rfl, rfl, (Engine.instr_of_single hsec).trans (decodeBytes_tail0 ht _ _).symm⟩, ?_⟩
      rw [BitVec.add_zero]
      rfl
    · rw [ht, fetchOperands, nextCycle_withCpu]
      exact ⟨⟨rfl, hbug, rfl, rfl, rfl, rfl, (Engine.instr_of_single hsec).trans (decodeBytes_tail1 ht _ _).symm⟩, rfl⟩
    · rw [ht, fetchOperands, nextCycle_withCpu, fetchOperand_withCpu, fetchOperands, nextCycle_withCpu]
      refine ⟨⟨rfl, hbug, rfl, rfl, rfl, rfl, Engine.instr_of_single hsec⟩, ?_⟩
      rw [show (2 : Nat) = 1 + 1 from rfl, BitVec.ofNat_add, ← BitVec.add_assoc]
      rfl

/-- The fetch of an undefined byte ends with it, whatever follows. -/
theorem fetch_undefined_instr {b p q : Byte} (hbytes : fetchedBytes u = [b, p, q]) (hu : isUndefined b = true) :
    (fetch u).eng.instr = decodeBytes b p q := by
  rw [fetchedBytes_eq] at hbytes
  cases hbytes
  obtain ⟨htail, hsec⟩ := tailLength_undefined hu
  have hfetch : fetch u = fetchOpcode u := if_pos hu
  rw [hfetch]
  exact (Engine.instr_of_single hsec).trans (decodeBytes_tail0 htail _ _).symm

/-- The latches hold the instruction that the bytes fetched decode to. -/
theorem fetch_instr {i : Instr} {rest : List Byte} (h : decode (fetchedBytes u) = .ok (i, rest)) :
    (fetch u).eng.instr = i := by
  have hbytes := fetchedBytes_eq u
  rw [hbytes, decode_three] at h
  cases h
  cases hu : isUndefined (memRead u u.regs.pc) with
  | true => exact fetch_undefined_instr hbytes hu
  | false => exact (fetch_defined hbytes hu).1.instr

end

theorem eq_update_of_eq_withCpu {t s : State} {r : Regs} {e : Engine} (h : t = s.withCpu r e) :
    t = { s with regs := t.regs, eng := t.eng } := by
  subst h
  rfl

theorem secondPc_add (u : State) (n : Nat) :
    secondPc u + BitVec.ofNat 16 n = u.regs.pc + BitVec.ofNat 16 (n + 1 - if u.eng.haltBugMode then 1 else 0) := by
  unfold secondPc
  split
  · rfl
  · rw [Nat.sub_zero, Nat.add_comm, BitVec.ofNat_add, ← BitVec.add_assoc]
    rfl

/-- Settles O5: a defined opcode byte is followed by as many bytes as its encoding has, each read in its own M-cycle
(`fetch_defined`). -/
theorem fetchAdvancesPc : Obligations.FetchAdvancesPc := by
  intro u i rest hdec hdef
  have hbytes := fetchedBytes_eq u
  rw [hbytes, decode_three] at hdec
  cases hdec
  have hu : isUndefined (memRead u u.regs.pc) = false :=
    Bool.eq_false_iff.2 fun hu => hdef _ (form_undefined hu _ _)
  obtain ⟨heng, hstate⟩ := fetch_defined hbytes hu
  rw [length_encode_decodeBytes, Nat.add_sub_cancel, ← secondPc_add]
  exact ⟨congrArg State.regs hstate, eq_update_of_eq_withCpu hstate, heng.fsm, heng.haltBugMode, heng.opIndex, heng.ctx,
    heng.faulted, heng.irqSel⟩

/-! ### A step of a CPU between instructions (40_cpu_fsm R170 to R174, R190) -/

section
variable {s : State}

/-- A step from an idle state begins at its gated tick. -/
theorem step_of_idle (hf : s.eng.faulted = none) (hs : s.host.stopFlag = false) (hidle : s.eng.fsm.idle = true) :
    step s = leaveLoop s (stepAtSlot (nextSlot s)) := by
  simp only [step, machineStep, hf, hs, hidle, Bool.false_eq_true, if_false, if_true]

theorem stepAtSlot_interrupt (h : (s.irq.ime && s.irq.pending) = true) :
    stepAtSlot s = .next (postCpu (takeInterrupt (leaveStopped s))) := if_pos h

theorem stepAtSlot_opcode (h : (s.irq.ime && s.irq.pending) = false) (hf : s.eng.fsm = .opcode) :
    stepAtSlot s = runInstruction s := by
  rw [stepAtSlot, h, hf]
  rfl

theorem stepAtSlot_stopped (h : (s.irq.ime && s.irq.pending) = false) (hf : s.eng.fsm = .stopped) :
    stepAtSlot s = .next (postCpu s) := by
  rw [stepAtSlot, h, hf]
  rfl

theorem stepAtSlot_halted (h : (s.irq.ime && s.irq.pending) = false) (hf : s.eng.fsm = .halted) :
    stepAtSlot s =
      if s.irq.pending then
        if s.cfg.haltWakeExtraTick then .next (postCpu (s.setFsm .opcode)) else runInstruction (s.setFsm .opcode)
      else .next (postCpu s) := by
  rw [stepAtSlot, h, hf]
  rfl

end

/-- Settles O4: the step is that of its gated tick (`step_of_idle`), and what it runs is what the bytes decode to
(`fetch_instr`). -/
theorem stepRunsFetchedInstruction : Obligations.StepRunsFetchedInstruction := by
  intro s i rest ⟨hf, hs, hfsm, hquiet⟩ hdec
  rw [step_of_idle hf hs (by rw [hfsm]; rfl), stepAtSlot_opcode hquiet ((nextSlot_fsm s).trans hfsm), runInstruction,
    fetch_instr hdec]
  cases exec i (fetch (nextSlot s)) <;> rfl

/-- Settles O9: the three states are the idle ones, in which a step begins at its gated tick (`step_of_idle`), where the
interrupt comes first (`stepAtSlot_interrupt`). -/
theorem interruptAccepted : Obligations.InterruptAccepted := by
  intro s hf hs hfsm hime hpending
  have hidle : s.eng.fsm.idle = true := by rcases hfsm with h | h | h <;> rw [h] <;> rfl
  constructor
  · rw [step_of_idle hf hs hidle, stepAtSlot_interrupt (by rw [hime, hpending]; rfl)]
    rfl
  · rw [leaveStopped, nextSlot_fsm]
    rfl

/-! ### The master tick in which the tick loop is left (00_scope R15; log 23) -/

section
variable {s : State}

/-- The loop, once left, is not entered again. -/
theorem loops_of_ticks {m n : Nat} (hmn : m ≤ n) (h : (ticks n s).loops = true) : (ticks m s).loops = true := by
  cases hl : (ticks m s).loops with
  | true => rfl
  | false =>
    rw [← Nat.add_sub_of_le hmn, ticks_add, ticks_stopped hl, hl] at h
    exact h

/-- Master ticks that lead out of the loop lead where the one that left it did. -/
theorem ticks_leaving {n : Nat} (hs : s.loops = true) (hn : (ticks n s).loops = false) :
    ∃ k, ticks n s = ticks (k + 1) s ∧ ∀ m ≤ k, (ticks m s).loops = true := by
  induction n with
  | zero => exact nomatch hs.symm.trans hn
  | succ n ih =>
    cases hl : (ticks n s).loops with
    | false =>
      obtain ⟨k, hk, hbefore⟩ := ih hl
      exact ⟨k, by rw [ticks_succ, machineTick_stopped _ hl, hk], hbefore⟩
    | true => exact ⟨n, rfl, fun m hm => loops_of_ticks hm hl⟩

theorem loops_of_stopFlag (h : s.host.stopFlag = true) : s.loops = false := by
  rw [State.loops, h]
  exact Bool.and_false _

/-- A step in which the host stops the machine ends with the master tick in which it does. -/
theorem step_stopped_in {t : State} (hidle : s.eng.fsm.idle = true) (hs : s.host.stopFlag = false)
    (hstep : step s = .next t) (ht : t.host.stopFlag = true) :
    ∃ n, t = ticks (n + 1) s ∧ ∀ m ≤ n, (ticks m s).loops = true := by
  cases hf : s.eng.faulted with
  | some u =>
    rw [step, machineStep, hf] at hstep
    cases hstep
  | none =>
    obtain ⟨w, hw, -, -⟩ := stepAtSlot_next (nextSlot s)
    rw [step_of_idle hf hs hidle, hw] at hstep
    cases hstep
    cases hflag : w.host.stopFlag with
    | false =>
      rw [untilStopped_live s hflag, hflag] at ht
      cases ht
    | true =>
      rw [untilStopped_ticks s hflag] at ht ⊢
      exact ticks_leaving (loops_eq_true.2 ⟨hf, hs⟩) (loops_of_stopFlag ht)

theorem step_of_stopFlag (hf : s.eng.faulted = none) (hs : s.host.stopFlag = true) : step s = .next s := by
  simp only [step, machineStep, hf, hs, if_true]

end

/-- Settles O13: a step the host cuts is the master ticks up to the one that leaves the loop (`step_stopped_in`); the other
clauses are the branches of the gated tick in STOPPED and HALTED, and what time leaves alone. -/
theorem waitingCpu : Obligations.WaitingCpu := by
  refine ⟨fun s hf hs => ?_, fun s t _ hidle hs hstep ht => ?_, fun s t ht => untilStopped_live s ht,
    fun s hf hs hfsm hquiet => ?_, fun s hf hs hfsm => ?_⟩
  · exact ⟨machineTick_stopped s (loops_of_stopFlag hs), step_of_stopFlag hf hs⟩
  · obtain ⟨n, hn, hbefore⟩ := step_stopped_in hidle hs hstep ht
    exact ⟨n, hn, fun m hm => (loops_eq_true.1 (hbefore m hm)).symm⟩
  · have hslot : (nextSlot s).eng.fsm = .stopped := (nextSlot_fsm s).trans hfsm
    refine ⟨postCpu (nextSlot s), ?_, rfl, hslot, nextSlot_regs s, congrArg Timeless.ime (nextSlot_timeless s)⟩
    rw [step_of_idle hf hs (by rw [hfsm]; rfl), stepAtSlot_stopped hquiet hslot]
    rfl
  · have hslot : (nextSlot s).eng.fsm = .halted := (nextSlot_fsm s).trans hfsm
    rw [step_of_idle hf hs (by rw [hfsm]; rfl)]
    constructor
    · intro hpending
      rw [stepAtSlot_halted (by rw [hpending, Bool.and_false]) hslot, hpending]
      exact ⟨rfl, nextSlot_regs s, hslot⟩
    · intro hpending hime
      rw [stepAtSlot_halted (by rw [hime, Bool.false_and]) hslot, hpending, nextSlot_cfg]
      constructor <;> intro hextra <;> rw [hextra] <;> rfl

/-! ### The OAM corruption hook (40_cpu_fsm R195, R196; log 9) -/

theorem Mem.read_writeAll_other (m : List Host.Cell) (a b : Nat) (vs : List Byte) (h : b < a ∨ a + vs.length ≤ b) :
    Mem.read (Mem.writeAll m a vs) b = Mem.read m b := by
  induction vs generalizing m a with
  | nil => rfl
  | cons v vs ih =>
    rw [List.length_cons] at h
    rw [Mem.writeAll, ih _ _ (by omega), Mem.read_write_other v (by omega)]

theorem oamBug_outside {s : State} (k : Option OamCause) (h : s.oamBugWindow = false) : oamBug k s = s := by
  cases k with
  | none => rfl
  | some k => exact if_neg (Bool.eq_false_iff.1 h)

theorem State.vramKey_mod (s : State) {n : Nat} (h : n < 0x10000) : s.vramKey n % 0x10000 = n := by
  unfold State.vramKey
  split <;> omega

theorem State.wramKey_mod (s : State) {n : Nat} (h : n < 0x10000) : s.wramKey n % 0x10000 = n := by
  unfold State.wramKey
  split <;> omega

theorem region_of_place_cell {s : State} {a : Word} {k : Nat} (h : place s a = .cell k) : region s a = .cell k := by
  unfold place at h
  split at h
  · cases h
  · exact h

theorem place_wram_cell_outside_oam {s : State} {a : Word} {k : Nat} (hlo : 0xC000 ≤ a.toNat) (hhi : a.toNat < 0xE000)
    (h : place s a = .cell k) : k < 0xFE00 ∨ 0xFEA0 ≤ k := by
  have hkey := s.wramKey_mod (n := a.toNat) (by omega)
  obtain rfl := Place.cell.inj ((place_wram s hlo hhi).symm.trans h)
  omega

/-- OAM's cells are shown at its own addresses only: below it, a region's cells are its addresses, in some bank. -/
theorem place_cell_outside_oam {s : State} {a : Word} {k : Nat} (ha : a.toNat < 0xFE00 ∨ 0xFEA0 ≤ a.toNat)
    (h : place s a = .cell k) : k < 0xFE00 ∨ 0xFEA0 ≤ k := by
  have hlt : a.toNat < 0x10000 := a.isLt
  by_cases hrom : a.toNat < 0x8000
  · rw [place_rom s hrom] at h
    split at h <;> cases h
  by_cases hvram : a.toNat < 0xA000
  · have hkey := s.vramKey_mod hlt
    obtain rfl := Place.cell.inj ((region_vram s (by omega) hvram).symm.trans (region_of_place_cell h))
    omega
  by_cases hcart : a.toNat < 0xC000
  · exact nomatch (place_cartRam s (by omega) hcart).symm.trans h
  by_cases hwram : a.toNat < 0xE000
  · exact place_wram_cell_outside_oam (by omega) hwram h
  by_cases hecho : a.toNat < 0xFE00
  · rw [place_echo s (by omega) hecho] at h
    have hsub : (a - 0x2000).toNat = a.toNat - 0x2000 := BitVec.toNat_sub_of_le (by bv_omega)
    exact place_wram_cell_outside_oam (by omega) (by omega) h
  by_cases hvoid : a.toNat < 0xFF00
  · exact nomatch (place_unusable s (by omega) hvoid).symm.trans h
  by_cases hio : a.toNat < 0xFF80
  · rw [place_io s (by omega) hio] at h
    split at h <;> cases h
  by_cases hram : a.toNat < 0xFFFF
  · obtain rfl := Place.cell.inj ((place_hram s (by omega) hram).symm.trans h)
    omega
  · have hie : a = 0xFFFF := BitVec.eq_of_toNat_eq (by simp; omega)
    rw [hie, place_ie] at h
    cases h

/-- What a read outside OAM depends on of storage: the flat ROM's cells and the cells of the other regions. -/
theorem memRead_setMem_outside_oam (s : State) (m : List Host.Cell) {a : Word}
    (hm : ∀ k, k < 0xFE00 ∨ 0xFEA0 ≤ k → Mem.read m k = Mem.read s.mem k)
    (ha : a.toNat < 0xFE00 ∨ 0xFEA0 ≤ a.toNat) : memRead { s with mem := m } a = memRead s a := by
  unfold memRead
  rw [place_setMem]
  cases hp : place s a with
  | cell k => exact hm k (place_cell_outside_oam ha hp)
  | cart n =>
    show s.cfg.cartRead s.cart m n = s.cfg.cartRead s.cart s.mem n
    unfold Config.cartRead
    split
    · split
      · exact hm n (by omega)
      · rfl
    · rfl
  | boot n => rfl
  | device n => rfl
  | void => rfl

theorem memRead_oamBug {s : State} {a : Word} (k : Option OamCause) (ha : a.toNat < 0xFE00 ∨ 0xFEA0 ≤ a.toNat) :
    memRead (oamBug k s) a = memRead s a := by
  cases hw : s.oamBugWindow with
  | false => rw [oamBug_outside k hw]
  | true =>
    cases k with
    | none => rfl
    | some k =>
      rw [oamBug, if_pos hw]
      refine memRead_setMem_outside_oam s _ (fun n hn => Mem.read_writeAll_other _ _ _ _ ?_) ha
      rw [State.corruptedOam, List.length_map, List.length_range]
      omega

theorem causeIf_eq (a : Word) (k : OamCause) :
    MicroOp.causeIf a k = if 0xFE00 ≤ a.toNat ∧ a.toNat ≤ 0xFEFF then some k else none := by
  simp only [MicroOp.causeIf, inOam, Bool.and_eq_true, decide_eq_true_eq]

/-- Settles O28: the hook writes the 160 cells of OAM, which no other address shows (`memRead_oamBug`), and nothing outside
the window (`oamBug_outside`). -/
theorem oamBugFrame : Obligations.OamBugFrame := by
  refine ⟨fun s k h => ?_, fun s k => ⟨?_, fun b hb => memRead_oamBug k hb⟩, causeIf_eq⟩
  · rcases h with h | h | h | rfl
    · exact oamBug_outside k (by simp [State.oamBugWindow, h])
    · exact oamBug_outside k (by simp [State.oamBugWindow, h])
    · exact oamBug_outside k (by simp [State.oamBugWindow, h])
    · rfl
  · obtain ⟨m, hm⟩ := oamBug_cases k s
    rw [hm]

end Sys2Proof.Machine

/-! ## An instruction as a list of micro-operations, and the loads (40_cpu_fsm R180 to R188, 41_load8, 42_load16_stack) -/

namespace Sys2Proof.Machine

/-! ### The machine inside an instruction -/

/-- Inside an instruction: `u` is what the other agents and the memory accesses so far have left, and over it stand the
registers, the context and the micro-op index that the operations so far have left. -/
def State.midway (u : State) (r : Regs) (ctx : Word) (index : Nat) : State :=
  u.withCpu r { u.eng with ctx := ctx, opIndex := index }

section
variable (u : State) (r : Regs) (ctx : Word) (index : Nat)

theorem State.midway_self : u.midway u.regs u.eng.ctx u.eng.opIndex = u := rfl

theorem nextCycle_midway : nextCycle (u.midway r ctx index) = (nextCycle u).midway r ctx index := by
  unfold State.midway
  rw [nextCycle_withCpu, nextCycle_eng u]
  rfl

theorem oamBug_midway (k : Option OamCause) : oamBug k (u.midway r ctx index) = (oamBug k u).midway r ctx index := by
  unfold State.midway
  rw [oamBug_withCpu, oamBug_eng]

theorem memWrite_midway (a : Word) (v : Byte) :
    memWrite (u.midway r ctx index) a v = (memWrite u a v).midway r ctx index := by
  unfold State.midway
  rw [memWrite_withCpu, memWrite_eng]

/-- The OAM corruption check comes before the effect, by the values before it (R180, R196). -/
theorem MicroOp.step_midway (op : MicroOp) : op.step (u.midway r ctx index) =
    op.run ((oamBug (op.cause (u.midway r ctx index)) u).midway r ctx (index + 1)) := by
  have hindex : (u.midway r ctx index).setOpIndex (index + 1) = u.midway r ctx (index + 1) := rfl
  rw [← oamBug_midway, ← hindex]
  rfl

end

theorem ends_midway {u : State} {r : Regs} {ctx : Word} {index : Nat} {b : Bool} :
    Ends u r (runOps b [] (u.midway r ctx index)) := ends_finish r rfl

/-- An instruction completes if its list, run from the registers as they are, ends. -/
theorem completes_of_ops {i : Instr} {f : Form} {s u : State} {r : Regs} (h : form i = f) (hlisted : f.listed = true)
    (hends : Ends u r (runOps true f.ops (s.midway s.regs s.eng.ctx s.eng.opIndex))) : Completes i s u r := by
  rw [State.midway_self] at hends
  exact ⟨_, (exec_of_form h s).trans (formExec_of_listed hlisted s), hends⟩

/-! ### The rule of each micro-operation (R187) -/

section
variable (u : State) (r : Regs) (ctx : Word) (index : Nat) (b : Bool) (rest : List MicroOp)

theorem runOps_plain_midway {op : MicroOp} {t : State} (hmem : op.mem = false) (hfin : op.isFin = false)
    (hproceeds : ∀ s, op.proceeds s = true)
    (hrun : op.run ((oamBug (op.cause (u.midway r ctx index)) u).midway r ctx (index + 1)) = t) :
    runOps b (op :: rest) (u.midway r ctx index) = runOps b rest t := by
  rw [runOps_plain hmem hfin hproceeds, MicroOp.step_midway, hrun]

theorem runOps_taken_midway {op : MicroOp} {t : State} (hmem : op.mem = true) (hfin : op.isFin = false)
    (hproceeds : ∀ s, op.proceeds s = true)
    (hrun : op.run ((oamBug (op.cause ((nextCycle u).midway r ctx index)) (nextCycle u)).midway r ctx (index + 1)) = t) :
    runOps true (op :: rest) (u.midway r ctx index) = runOps true rest t := by
  rw [runOps_taken hmem hfin hproceeds, nextCycle_midway, MicroOp.step_midway, hrun]

@[simp] theorem runOps_ldr_midway (x : RegName) :
    runOps b (.ldr x :: rest) (u.midway r ctx index) = runOps b rest (u.midway r (r.load x) (index + 1)) :=
  runOps_plain_midway u r ctx index b rest rfl rfl (fun _ => rfl) rfl

@[simp] theorem runOps_str_midway (x : RegName) :
    runOps b (.str x :: rest) (u.midway r ctx index) = runOps b rest (u.midway (r.store x ctx) ctx (index + 1)) :=
  runOps_plain_midway u r ctx index b rest rfl rfl (fun _ => rfl) rfl

@[simp] theorem runOps_imm8_midway (n : Byte) :
    runOps b (.imm8 n :: rest) (u.midway r ctx index) = runOps b rest (u.midway r (zext16 n) (index + 1)) :=
  runOps_plain_midway u r ctx index b rest rfl rfl (fun _ => rfl) rfl

@[simp] theorem runOps_imm16_midway (nn : Word) :
    runOps b (.imm16 nn :: rest) (u.midway r ctx index) = runOps b rest (u.midway r nn (index + 1)) :=
  runOps_plain_midway u r ctx index b rest rfl rfl (fun _ => rfl) rfl

@[simp] theorem runOps_hlInc_midway : runOps b (.hlInc :: rest) (u.midway r ctx index) =
    runOps b rest ((oamBug (MicroOp.causeIf r.hl .ldHl) u).midway (r.setHl (r.hl + 1)) ctx (index + 1)) :=
  runOps_plain_midway u r ctx index b rest rfl rfl (fun _ => rfl) rfl

@[simp] theorem runOps_hlDec_midway : runOps b (.hlDec :: rest) (u.midway r ctx index) =
    runOps b rest ((oamBug (MicroOp.causeIf r.hl .ldHl) u).midway (r.setHl (r.hl - 1)) ctx (index + 1)) :=
  runOps_plain_midway u r ctx index b rest rfl rfl (fun _ => rfl) rfl

@[simp] theorem runOps_wait_midway : runOps true (.wait :: rest) (u.midway r ctx index) =
    runOps true rest ((nextCycle u).midway r ctx (index + 1)) :=
  runOps_taken_midway u r ctx index rest rfl rfl (fun _ => rfl) rfl

@[simp] theorem runOps_rd_midway (am : AddrMode) : runOps true (.rd am :: rest) (u.midway r ctx index) =
    runOps true rest ((nextCycle u).midway r (zext16 (memRead (nextCycle u) (r.addr am))) (index + 1)) :=
  runOps_taken_midway u r ctx index rest rfl rfl (fun _ => rfl) rfl

@[simp] theorem runOps_wr_midway (am : AddrMode) : runOps true (.wr am :: rest) (u.midway r ctx index) =
    runOps true rest ((memWrite (nextCycle u) (r.addr am) (loByte ctx)).midway r ctx (index + 1)) :=
  runOps_taken_midway u r ctx index rest rfl rfl (fun _ => rfl) (memWrite_midway _ _ _ _ _ _)

end

/-! ### Bytes in the context, and the addresses of the high page -/

@[simp] theorem Regs.load_r8 (r : Regs) (x : Reg8) : r.load (.r8 x) = zext16 (r.get8 x) := rfl

@[simp] theorem Regs.store_r8_zext16 (r : Regs) (x : Reg8) (v : Byte) : r.store (.r8 x) (zext16 v) = r.set8 x v := by
  rw [Regs.store, loByte_zext16]

/-- The addresses of the modes `a8` and `c` (R188). -/
theorem highPage_add (n : Byte) : 0xFF00 + zext16 n = (0xFF : Byte) ++ n := by
  have hn : n.toNat < 2 ^ 8 := n.isLt
  have hpage : (0xFF : Byte).toNat = 0xFF := rfl
  have hbase : (0xFF00 : Word).toNat = 0xFF00 := rfl
  apply BitVec.eq_of_toNat_eq
  rw [BitVec.toNat_append, ← Nat.shiftLeft_add_eq_or_of_lt hn, zext16, BitVec.toNat_add, BitVec.toNat_setWidth,
    hpage, hbase]
  omega

/-! ### The loads -/

section
variable {i : Instr} {f : Form} {s : State} {am : AddrMode} {a : Word}

theorem completes_load (x : Reg8) (h : form i = f) (hlisted : f.listed = true)
    (hops : f.ops = [.rd am, .str (.r8 x)]) (ha : s.regs.addr am = a) :
    Completes i s (nextCycle s) (s.regs.set8 x (memRead (nextCycle s) a)) := by
  refine completes_of_ops h hlisted ?_
  rw [hops, runOps_rd_midway, runOps_str_midway, Regs.store_r8_zext16, ha]
  exact ends_midway

theorem completesStoring_reg (x : Reg8) (h : form i = f) (hlisted : f.listed = true)
    (hops : f.ops = [.ldr (.r8 x), .wr am]) (ha : s.regs.addr am = a) :
    CompletesStoring i s (nextCycle s) a (s.regs.get8 x) s.regs := by
  refine ⟨completes_of_ops h hlisted ?_, stored_memWrite _ _ _⟩
  rw [hops, runOps_ldr_midway, runOps_wr_midway, Regs.load_r8, loByte_zext16, ha]
  exact ends_midway

end

/-- Settles O31: a byte in the context comes back from it whole (`Regs.store_r8_zext16`). -/
theorem loadRegister : Obligations.LoadRegister := by
  refine fun i s => ⟨fun dst src h => completes_of_ops h rfl ?_, fun dst n h => completes_of_ops h rfl ?_,
    fun rr nn h => completes_of_ops h rfl ?_, fun h => completes_of_ops h rfl ?_⟩
  · rw [Form.ops, Micro.ldRR, runOps_ldr_midway, runOps_str_midway, Regs.load_r8, Regs.store_r8_zext16]
    exact ends_midway
  · rw [Form.ops, Micro.ldRD8, runOps_imm8_midway, runOps_str_midway, Regs.store_r8_zext16]
    exact ends_midway
  · rw [Form.ops, Micro.ldRrD16, runOps_imm16_midway, runOps_str_midway]
    exact ends_midway
  · rw [Form.ops, Micro.ldSpHl, runOps_ldr_midway, runOps_str_midway, runOps_wait_midway]
    exact ends_midway

/-- Settles O32: every load is a read by its addressing mode and a byte into its register (`completes_load`). -/
theorem loadFromMemory : Obligations.LoadFromMemory := fun _ s =>
  ⟨fun dst h => completes_load dst h rfl rfl rfl, fun h => completes_load .a h rfl rfl rfl,
    fun h => completes_load .a h rfl rfl rfl, fun _ h => completes_load .a h rfl rfl rfl,
    fun n h => completes_load .a h rfl rfl (highPage_add n), fun h => completes_load .a h rfl rfl (highPage_add s.regs.c)⟩

/-- Settles O33: every store is a byte from its register, or its operand, and a write by its addressing mode
(`completesStoring_reg`). -/
theorem storeByte : Obligations.StoreByte := by
  refine fun i s => ⟨fun src h => completesStoring_reg src h rfl rfl rfl,
    fun n h => ⟨completes_of_ops h rfl ?_, stored_memWrite _ _ _⟩,
    fun h => completesStoring_reg .a h rfl rfl rfl, fun h => completesStoring_reg .a h rfl rfl rfl,
    fun nn h => completesStoring_reg .a h rfl rfl rfl, fun n h => completesStoring_reg .a h rfl rfl (highPage_add n),
    fun h => completesStoring_reg .a h rfl rfl (highPage_add s.regs.c)⟩
  rw [Form.ops, Micro.ldHlD8, runOps_imm8_midway, runOps_wr_midway, loByte_zext16]
  exact ends_midway

/-- Settles O34: the access uses HL before it steps, and so does the hook's check (`runOps_hlInc_midway`). -/
theorem loadStoreSteppingHl : Obligations.LoadStoreSteppingHl := by
  refine fun i s => ⟨fun h => ⟨completes_of_ops h rfl ?_, stored_memWrite _ _ _⟩,
    fun h => ⟨completes_of_ops h rfl ?_, stored_memWrite _ _ _⟩, fun h => completes_of_ops h rfl ?_,
    fun h => completes_of_ops h rfl ?_⟩
  · rw [Form.ops, Micro.ldHlIncA, runOps_ldr_midway, runOps_wr_midway, runOps_hlInc_midway, Regs.load_r8, loByte_zext16]
    exact ends_midway
  · rw [Form.ops, Micro.ldHlDecA, runOps_ldr_midway, runOps_wr_midway, runOps_hlDec_midway, Regs.load_r8, loByte_zext16]
    exact ends_midway
  · rw [Form.ops, Micro.ldAHlInc, runOps_rd_midway, runOps_str_midway, runOps_hlInc_midway, Regs.store_r8_zext16]
    exact ends_midway
  · rw [Form.ops, Micro.ldAHlDec, runOps_rd_midway, runOps_str_midway, runOps_hlDec_midway, Regs.store_r8_zext16]
    exact ends_midway

end Sys2Proof.Machine

/-! ## SP and the stack: the statements of the family 42_load16_stack -/

namespace Sys2Proof.Machine

/-! ### A word stored byte by byte, and a displacement added to SP (42_load16_stack R261, R263) -/

section
variable (u : State) (r : Regs) (ctx : Word) (index : Nat) (b : Bool) (rest : List MicroOp)

@[simp] theorem runOps_wr16Lo_midway (a : Word) : runOps true (.wr16Lo a :: rest) (u.midway r ctx index) =
    runOps true rest ((memWrite (nextCycle u) a (loByte ctx)).midway r ctx (index + 1)) :=
  runOps_taken_midway u r ctx index rest rfl rfl (fun _ => rfl) (memWrite_midway _ _ _ _ _ _)

@[simp] theorem runOps_wr16Hi_midway (a : Word) : runOps true (.wr16Hi a :: rest) (u.midway r ctx index) =
    runOps true rest ((memWrite (nextCycle u) (a + 1) (hiByte ctx)).midway r ctx (index + 1)) :=
  runOps_taken_midway u r ctx index rest rfl rfl (fun _ => rfl) (memWrite_midway _ _ _ _ _ _)

@[simp] theorem runOps_addSp_midway (e : Byte) : runOps b (.addSp e :: rest) (u.midway r ctx index) =
    runOps b rest (u.midway (r.setFlags (Alu.addSp ctx e).flags) (Alu.addSp ctx e).val (index + 1)) :=
  runOps_plain_midway u r ctx index b rest rfl rfl (fun _ => rfl) rfl

end

@[simp] theorem Regs.load_sp (r : Regs) : r.load (.r16 .sp) = r.sp := rfl

theorem wf_of_form {i : Instr} {f : Form} (h : form i = f) (hwf : i.wf = true) : f.wf = true := h ▸ hwf

theorem sext16_displacement {e : Int} (h : displacementOk e = true) : sext16 (BitVec.ofInt 8 e) = BitVec.ofInt 16 e := by
  rw [sext16, BitVec.signExtend, toInt_ofInt_displacement h]

/-- The unsigned reading of a displacement's byte is the displacement modulo 256. -/
theorem Alu.addSp_displacement (sp : Word) {e : Int} (h : displacementOk e = true) : Alu.addSp sp (BitVec.ofInt 8 e) =
    { val := sp + BitVec.ofInt 16 e
      flags := { z := false, n := false, h := decide ((sp.toNat : Int) % 16 + e % 16 > 15)
                 c := decide ((sp.toNat : Int) % 256 + e % 256 > 255) } } := by
  have hbyte : ((BitVec.ofInt 8 e).toNat : Int) = e % 256 := by
    rw [BitVec.toNat_ofInt]
    omega
  rw [Alu.addSp, sext16_displacement h]
  congr 2 <;> exact decide_eq_decide.mpr (by omega)

/-- Settles O35: the stores are SP's own bytes, and the two sums are the ALU's sum for the displacement's byte
(`Alu.addSp_displacement`). -/
theorem stackPointerInstructions : Obligations.StackPointerInstructions := by
  refine fun i s => ⟨fun nn h => ⟨⟨completes_of_ops h rfl ?_, stored_memWrite _ _ _⟩, stored_memWrite _ _ _⟩,
    fun e h hwf => completes_of_ops h rfl ?_, fun e h hwf => completes_of_ops h rfl ?_⟩
  · rw [Form.ops, Micro.ldA16Sp, runOps_ldr_midway, runOps_wr16Lo_midway, runOps_wr16Hi_midway, Regs.load_sp]
    exact ends_midway
  · rw [Form.ops, Micro.ldHlSpR8, runOps_ldr_midway, runOps_addSp_midway, runOps_wait_midway, runOps_str_midway,
      Regs.load_sp, Alu.addSp_displacement _ (wf_of_form h hwf)]
    exact ends_midway
  · rw [Form.ops, Micro.addSpR8, runOps_ldr_midway, runOps_addSp_midway, runOps_wait_midway, runOps_wait_midway,
      runOps_str_midway, Regs.load_sp, Alu.addSp_displacement _ (wf_of_form h hwf)]
    exact ends_midway

/-! ### The two accesses of a push and of a pop (42_load16_stack R264 to R266) -/

/-- The high byte of a word over its low byte (`POP_HI`, 40_cpu_fsm R187). -/
theorem zext16_or_shift (hi lo : Byte) : zext16 lo ||| (zext16 hi <<< 8) = joinBytes hi lo := by
  rw [joinBytes, BitVec.append_def, BitVec.shiftLeftZeroExtend_eq, BitVec.setWidth'_eq, BitVec.or_comm]
  rfl

section
variable (u : State) (r : Regs) (ctx : Word) (index : Nat) (rest : List MicroOp)

theorem pushByte_midway (v : Byte) : pushByte (u.midway r ctx index) v =
    (memWrite u (r.sp - 1) v).midway { r with sp := r.sp - 1 } ctx index :=
  memWrite_midway u { r with sp := r.sp - 1 } ctx index (r.sp - 1) v

@[simp] theorem runOps_pushHi_midway : runOps true (.pushHi :: rest) (u.midway r ctx index) =
    runOps true rest ((memWrite (oamBug (MicroOp.causeIf r.sp .push1) (nextCycle u)) (r.sp - 1) (hiByte ctx)).midway
      { r with sp := r.sp - 1 } ctx (index + 1)) :=
  runOps_taken_midway u r ctx index rest rfl rfl (fun _ => rfl) (pushByte_midway _ _ _ _ _)

@[simp] theorem runOps_pushLo_midway : runOps true (.pushLo :: rest) (u.midway r ctx index) =
    runOps true rest ((memWrite (oamBug (MicroOp.causeIf r.sp .push2) (nextCycle u)) (r.sp - 1) (loByte ctx)).midway
      { r with sp := r.sp - 1 } ctx (index + 1)) :=
  runOps_taken_midway u r ctx index rest rfl rfl (fun _ => rfl) (pushByte_midway _ _ _ _ _)

@[simp] theorem runOps_popLo_midway : runOps true (.popLo :: rest) (u.midway r ctx index) =
    runOps true rest ((oamBug (MicroOp.causeIf r.sp .pop1) (nextCycle u)).midway { r with sp := r.sp + 1 }
      (zext16 (memRead (oamBug (MicroOp.causeIf r.sp .pop1) (nextCycle u)) r.sp)) (index + 1)) :=
  runOps_taken_midway u r ctx index rest rfl rfl (fun _ => rfl) rfl

@[simp] theorem runOps_popHi_midway : runOps true (.popHi :: rest) (u.midway r ctx index) =
    runOps true rest ((oamBug (MicroOp.causeIf r.sp .pop2) (nextCycle u)).midway { r with sp := r.sp + 1 }
      (ctx ||| (zext16 (memRead (oamBug (MicroOp.causeIf r.sp .pop2) (nextCycle u)) r.sp) <<< 8)) (index + 1)) :=
  runOps_taken_midway u r ctx index rest rfl rfl (fun _ => rfl) rfl

theorem runOps_pushWord_midway : runOps true (.pushHi :: .pushLo :: rest) (u.midway r ctx index) =
    runOps true rest ((pushedWord r.sp ctx (nextCycle u)).midway { r with sp := r.sp - 2 } ctx (index + 2)) := by
  have hsp : r.sp - 1 - 1 = r.sp - 2 := by bv_omega
  rw [runOps_pushHi_midway, runOps_pushLo_midway, hsp]
  rfl

theorem runOps_popWord_midway : runOps true (.popLo :: .popHi :: rest) (u.midway r ctx index) =
    runOps true rest ((poppedState r.sp (nextCycle u)).midway { r with sp := r.sp + 2 } (poppedWord r.sp (nextCycle u))
      (index + 2)) := by
  have hsp : r.sp + 1 + 1 = r.sp + 2 := by bv_omega
  rw [runOps_popLo_midway, runOps_popHi_midway, zext16_or_shift, hsp]
  rfl

end

theorem pushStores (sp v : Word) (u : State) : PushStores sp v u := ⟨stored_memWrite _ _ _, stored_memWrite _ _ _, rfl⟩

/-- Settles O36: both accesses move SP by one and check the hook by the SP before them (`runOps_pushWord_midway`,
`runOps_popWord_midway`). -/
theorem pushPop : Obligations.PushPop := by
  refine fun i s rr => ⟨fun h => ⟨completes_of_ops h rfl ?_, pushStores _ _ _⟩, fun h => completes_of_ops h rfl ?_⟩
  · rw [Form.ops, Micro.push, runOps_wait_midway, runOps_ldr_midway, runOps_pushWord_midway]
    exact ends_midway
  · rw [Form.ops, Micro.pop, runOps_popWord_midway, runOps_str_midway]
    exact ends_midway

end Sys2Proof.Machine

/-! ## 8-bit arithmetic, and the rotates of A: the statements of the family 43_alu8 -/

namespace Sys2Proof.Machine

/-! ### The micro-operations that compute (40_cpu_fsm R187) -/

section
variable (u : State) (r : Regs) (ctx : Word) (index : Nat) (b : Bool) (rest : List MicroOp)

@[simp] theorem runOps_alu1_midway (fn : Alu1) : runOps b (.alu1 fn :: rest) (u.midway r ctx index) =
    runOps b rest (u.midway (r.setFlags (fn.apply r.flags (loByte ctx)).flags)
      (zext16 (fn.apply r.flags (loByte ctx)).val) (index + 1)) :=
  runOps_plain_midway u r ctx index b rest rfl rfl (fun _ => rfl) rfl

@[simp] theorem runOps_clrz_midway : runOps b (.clrz :: rest) (u.midway r ctx index) =
    runOps b rest (u.midway (r.setFlags { r.flags with z := false }) ctx (index + 1)) :=
  runOps_plain_midway u r ctx index b rest rfl rfl (fun _ => rfl) rfl

@[simp] theorem runOps_alu2_reg_midway (op : AluOp) (x : Reg8) :
    runOps b (.alu2 op (.reg x) :: rest) (u.midway r ctx index) =
      runOps b rest (u.midway (r.setFlags (Alu.two op r.flags (loByte ctx) (r.get8 x)).flags)
        (zext16 (Alu.two op r.flags (loByte ctx) (r.get8 x)).val) (index + 1)) :=
  runOps_plain_midway u r ctx index b rest rfl rfl (fun _ => rfl) rfl

@[simp] theorem runOps_alu2_imm_midway (op : AluOp) (n : Byte) :
    runOps b (.alu2 op (.imm n) :: rest) (u.midway r ctx index) =
      runOps b rest (u.midway (r.setFlags (Alu.two op r.flags (loByte ctx) n).flags)
        (zext16 (Alu.two op r.flags (loByte ctx) n).val) (index + 1)) :=
  runOps_plain_midway u r ctx index b rest rfl rfl (fun _ => rfl) rfl

@[simp] theorem runOps_alu2_hl_midway (op : AluOp) :
    runOps true (.alu2 op .hl :: rest) (u.midway r ctx index) =
      runOps true rest ((nextCycle u).midway
        (r.setFlags (Alu.two op r.flags (loByte ctx) (memRead (nextCycle u) r.hl)).flags)
        (zext16 (Alu.two op r.flags (loByte ctx) (memRead (nextCycle u) r.hl)).val) (index + 1)) :=
  runOps_taken_midway u r ctx index rest rfl rfl (fun _ => rfl) rfl

end

/-- Settles O37: the operation finds A in the context, and its result goes back to A through it
(`Regs.store_r8_zext16`). -/
theorem aluOperands : Obligations.AluOperands := by
  refine fun i s op => ⟨fun src h => completes_of_ops h rfl ?_, fun n h => completes_of_ops h rfl ?_,
    fun h => completes_of_ops h rfl ?_⟩
  · rw [Form.ops, Micro.aluR, runOps_ldr_midway, runOps_alu2_reg_midway, runOps_str_midway, Regs.load_r8, loByte_zext16,
      Regs.store_r8_zext16]
    exact ends_midway
  · rw [Form.ops, Micro.aluD8, runOps_ldr_midway, runOps_alu2_imm_midway, runOps_str_midway, Regs.load_r8, loByte_zext16,
      Regs.store_r8_zext16]
    exact ends_midway
  · rw [Form.ops, Micro.aluHl, runOps_ldr_midway, runOps_alu2_hl_midway, runOps_str_midway, Regs.load_r8, loByte_zext16,
      Regs.store_r8_zext16]
    exact ends_midway

/-! ### The instructions of one operand -/

section
variable {i : Instr} {f : Form} {s : State}

theorem completes_alu1 (x : Reg8) (fn : Alu1) (h : form i = f) (hlisted : f.listed = true)
    (hops : f.ops = [.ldr (.r8 x), .alu1 fn, .str (.r8 x)]) :
    Completes i s s ((s.regs.setFlags (fn.apply s.regs.flags (s.regs.get8 x)).flags).set8 x
      (fn.apply s.regs.flags (s.regs.get8 x)).val) := by
  refine completes_of_ops h hlisted ?_
  rw [hops, runOps_ldr_midway, runOps_alu1_midway, runOps_str_midway, Regs.load_r8, loByte_zext16,
    Regs.store_r8_zext16]
  exact ends_midway

theorem completesStoring_alu1 (fn : Alu1) (h : form i = f) (hlisted : f.listed = true)
    (hops : f.ops = [.rd .hl, .alu1 fn, .wr .hl]) :
    CompletesStoring i s (nextCycle (nextCycle s)) s.regs.hl
      (fn.apply s.regs.flags (memRead (nextCycle s) s.regs.hl)).val
      (s.regs.setFlags (fn.apply s.regs.flags (memRead (nextCycle s) s.regs.hl)).flags) := by
  refine ⟨completes_of_ops h hlisted ?_, stored_memWrite _ _ _⟩
  rw [hops, runOps_rd_midway, runOps_alu1_midway, runOps_wr_midway, loByte_zext16, loByte_zext16]
  exact ends_midway

/-- The accumulator rotates: those of `Alu.shift`, but for Z (45_rotate_shift_bit R330 to R333). -/
theorem completes_rotateA (op : ShiftOp) (h : form i = f) (hlisted : f.listed = true)
    (hops : f.ops = [.ldr (.r8 .a), .alu1 (.shift op), .clrz, .str (.r8 .a)]) :
    Completes i s s
      { s.regs.setFlags { (Alu.shift op s.regs.flags s.regs.a).flags with z := false } with
        a := (Alu.shift op s.regs.flags s.regs.a).val } := by
  refine completes_of_ops h hlisted ?_
  rw [hops, runOps_ldr_midway, runOps_alu1_midway, runOps_clrz_midway, runOps_str_midway, Regs.load_r8, loByte_zext16,
    Regs.store_r8_zext16, Regs.flags_setFlags]
  exact ends_midway

end

/-! ### The helpers and the values of the operations (43_alu8 R280 to R288) -/

theorem bit01_eq_toNat (b : Bool) : bit01 b = b.toNat := by cases b <;> rfl

theorem toNat_lowNibble (v : Byte) : (v &&& 0xF).toNat = v.toNat % 16 := by
  rw [BitVec.toNat_and]
  exact Nat.and_two_pow_sub_one_eq_mod v.toNat 4

theorem byte_ofNat_eq_zero_iff (n : Nat) : (BitVec.ofNat 8 n = 0) ↔ n % 256 = 0 := by
  rw [← BitVec.toNat_inj, BitVec.toNat_ofNat]
  rfl

theorem byte_ofInt_eq_zero_iff (d : Int) : (BitVec.ofInt 8 d = 0) ↔ d % 256 = 0 := by
  have hmod : ((BitVec.ofInt 8 d).toNat : Int) = d % 256 := by
    rw [BitVec.toNat_ofInt]
    omega
  have hzero : (0 : Byte).toNat = 0 := rfl
  rw [← BitVec.toNat_inj, hzero]
  omega

/-- Settles O38: the model's own sums, with the nibbles as remainders modulo 16. -/
theorem addSubHelpers : Obligations.AddSubHelpers := by
  refine ⟨fun a v cin => ⟨?_, ?_⟩, fun a v cin => ⟨?_, ?_⟩⟩
  · rw [Alu.add8, bit01_eq_toNat, BitVec.toNat_ofNat]
  · dsimp only [Alu.add8]
    rw [toNat_lowNibble, toNat_lowNibble, bit01_eq_toNat]
    congr 1
    exact decide_eq_decide.mpr (byte_ofNat_eq_zero_iff _)
  · rw [Alu.sub8, bit01_eq_toNat, BitVec.toNat_ofInt]
    omega
  · dsimp only [Alu.sub8]
    rw [toNat_lowNibble, toNat_lowNibble, bit01_eq_toNat]
    congr 1
    exact decide_eq_decide.mpr (byte_ofInt_eq_zero_iff _)

theorem ofInt_sub (w : Nat) (x y : Int) : BitVec.ofInt w (x - y) = BitVec.ofInt w x - BitVec.ofInt w y := by
  rw [Int.sub_eq_add_neg, BitVec.ofInt_add, BitVec.ofInt_neg, BitVec.sub_eq_add_neg]

theorem ofInt_toNat (v : Byte) : BitVec.ofInt 8 v.toNat = v := by
  rw [BitVec.ofInt_natCast, BitVec.ofNat_toNat, BitVec.setWidth_eq]

theorem Alu.add8_val (a v : Byte) (cin : Bool) : (Alu.add8 a v cin).val = a + v + (if cin then 1 else 0) := by
  rw [Alu.add8, BitVec.ofNat_add, BitVec.ofNat_add, BitVec.ofNat_toNat, BitVec.ofNat_toNat, BitVec.setWidth_eq,
    BitVec.setWidth_eq]
  cases cin <;> rfl

theorem Alu.sub8_val (a v : Byte) (cin : Bool) : (Alu.sub8 a v cin).val = a - v - (if cin then 1 else 0) := by
  rw [Alu.sub8, ofInt_sub, ofInt_sub, ofInt_toNat, ofInt_toNat]
  cases cin <;> rfl

theorem Alu.add8_false_val (a v : Byte) : (Alu.add8 a v false).val = a + v :=
  (Alu.add8_val a v false).trans (BitVec.add_zero _)

theorem Alu.sub8_false_val (a v : Byte) : (Alu.sub8 a v false).val = a - v :=
  (Alu.sub8_val a v false).trans (BitVec.sub_zero _)

/-- The carry out of an addition shows in the word: it has wrapped below its first operand. -/
theorem Alu.add8_carry_eq (a v : Byte) : (Alu.add8 a v false).flags.c = decide ((a + v).toNat < a.toNat) := by
  have hzero : bit01 false = 0 := rfl
  refine decide_eq_decide.mpr ?_
  rw [BitVec.toNat_add]
  omega

theorem Alu.sub8_borrow_eq (a v : Byte) : (Alu.sub8 a v false).flags.c = decide (a.toNat < v.toNat) := by
  have hzero : bit01 false = 0 := rfl
  exact decide_eq_decide.mpr (by omega)

theorem Alu.sub8_zero_eq (a v : Byte) : (Alu.sub8 a v false).flags.z = decide (a = v) := by
  have hz : (Alu.sub8 a v false).flags.z = decide ((Alu.sub8 a v false).val = 0) := rfl
  rw [hz, Alu.sub8_false_val]
  exact decide_eq_decide.mpr sub_eq_zero

/-- Settles O39: which helper each operation is holds by definition; the words and CP's flags are those of the helpers
(`Alu.add8_val`, `Alu.sub8_val`, `Alu.sub8_zero_eq`). -/
theorem aluOperationResults : Obligations.AluOperationResults := by
  intro g a v
  have hxor : Alu.two .xor g a v =
      { val := a ^^^ v, flags := { z := decide (a = v), n := false, h := false, c := false } } := by
    rw [Alu.two, Alu.logic]
    congr 2
    exact decide_eq_decide.mpr BitVec.xor_eq_zero_iff
  exact ⟨rfl, rfl, rfl, rfl, rfl, Alu.add8_false_val a v, Alu.sub8_false_val a v, Alu.add8_val a v g.c,
    Alu.sub8_val a v g.c, rfl, rfl, rfl, hxor, rfl, rfl, rfl, Alu.sub8_zero_eq a v, Alu.sub8_borrow_eq a v,
    Alu.add8_carry_eq a v⟩

/-! ### INC and DEC (43_alu8 R290 to R293) -/

theorem Alu.inc_eq (g : Flags) (v : Byte) : Alu.inc g v =
    { val := v + 1, flags := { z := decide (v = 0xFF), n := false, h := decide (v &&& 0xF = 0xF), c := g.c } } := by
  have hz : v + 1 = 0 ↔ v = 0xFF := by bv_omega
  have hh : v.toNat % 16 = 0xF ↔ v &&& 0xF = 0xF := by rw [← BitVec.toNat_inj, toNat_lowNibble]; rfl
  simp only [Alu.inc, hz, hh]

theorem Alu.dec_eq (g : Flags) (v : Byte) : Alu.dec g v =
    { val := v - 1, flags := { z := decide (v = 1), n := true, h := decide (v &&& 0xF = 0), c := g.c } } := by
  have hz : v - 1 = 0 ↔ v = 1 := sub_eq_zero
  have hh : v.toNat % 16 = 0 ↔ v &&& 0xF = 0 := by rw [← BitVec.toNat_inj, toNat_lowNibble]; rfl
  simp only [Alu.dec, hz, hh]

/-- Settles O40: the two functions by the operand (`Alu.inc_eq`, `Alu.dec_eq`), on a register or on the byte at HL. -/
theorem incrementDecrement : Obligations.IncrementDecrement := by
  refine fun i s => ⟨fun r h => ?_, fun r h => ?_, fun h => ?_, fun h => ?_⟩
  · have hinc := completes_alu1 (s := s) r .inc h rfl rfl
    rwa [Alu1.apply, Alu.inc_eq] at hinc
  · have hdec := completes_alu1 (s := s) r .dec h rfl rfl
    rwa [Alu1.apply, Alu.dec_eq] at hdec
  · have hinc := completesStoring_alu1 (s := s) .inc h rfl rfl
    rwa [Alu1.apply, Alu.inc_eq] at hinc
  · have hdec := completesStoring_alu1 (s := s) .dec h rfl rfl
    rwa [Alu1.apply, Alu.dec_eq] at hdec

/-! ### The accumulator alone (43_alu8 R294 to R297; 45_rotate_shift_bit R330 to R333) -/

theorem byte_ofInt_ite (b : Bool) (n : Nat) :
    BitVec.ofInt 8 (if b then n else 0) = if b then BitVec.ofNat 8 n else 0 := by
  cases b
  · rfl
  · exact BitVec.ofInt_natCast 8 n

theorem Alu.daa_of_add {g : Flags} (hn : g.n = false) (a : Byte) :
    let high : Bool := g.c || decide (0x99 < a.toNat)
    let low : Bool := g.h || decide (0x09 < a.toNat % 16)
    let r : Byte := a + (if high then 0x60 else 0) + (if low then 0x06 else 0)
    Alu.daa g a = { val := r, flags := { z := decide (r = 0), n := false, h := false, c := high } } := by
  intro high low r
  have hr : BitVec.ofInt 8 ((a.toNat : Int) + (if high then 0x60 else 0) + (if low then 0x06 else 0)) = r := by
    rw [BitVec.ofInt_add, BitVec.ofInt_add, ofInt_toNat]
    exact congrArg₂ (a + · + ·) (byte_ofInt_ite high 0x60) (byte_ofInt_ite low 0x06)
  have hhigh : (!g.n && (g.c || decide (a.toNat > 0x99))) = high := by rw [hn]; rfl
  have hlow : (!g.n && (g.h || decide (a.toNat % 16 > 0x09))) = low := by rw [hn]; rfl
  have hc : (g.c || high) = high := by rw [← Bool.or_assoc, Bool.or_self]
  simp only [Alu.daa]
  rw [hhigh, hlow, hc, hn, if_neg Bool.false_ne_true, hr]

theorem Alu.daa_of_sub {g : Flags} (hn : g.n = true) (a : Byte) :
    let r : Byte := a - (if g.c then 0x60 else 0) - (if g.h then 0x06 else 0)
    Alu.daa g a = { val := r, flags := { z := decide (r = 0), n := true, h := false, c := g.c } } := by
  intro r
  have hr : BitVec.ofInt 8 ((a.toNat : Int) - (if g.c then 0x60 else 0) - (if g.h then 0x06 else 0)) = r := by
    rw [ofInt_sub, ofInt_sub, ofInt_toNat]
    exact congrArg₂ (a - · - ·) (byte_ofInt_ite g.c 0x60) (byte_ofInt_ite g.h 0x06)
  simp only [Alu.daa]
  rw [hn, if_pos rfl, hr, Bool.not_true, Bool.false_and, Bool.or_false]

theorem Alu.cpl_eq (g : Flags) (v : Byte) : Alu.cpl g v = { val := ~~~v, flags := { g with n := true, h := true } } := by
  have hnot : v ^^^ 0xFF = ~~~v := BitVec.xor_allOnes
  rw [Alu.cpl, hnot]

theorem Alu.shift_rlc_val (g : Flags) (v : Byte) : (Alu.shift .rlc g v).val = v.rotateLeft 1 := by
  have hall : everyByte (fun v => decide (maskIf (bitAt v 7) 0x01 = v >>> 7)) = true := rfl
  rw [BitVec.rotateLeft_def]
  exact congrArg (v <<< 1 ||| ·) (of_decide_eq_true (of_everyByte hall v))

theorem Alu.shift_rrc_val (g : Flags) (v : Byte) : (Alu.shift .rrc g v).val = v.rotateRight 1 := by
  have hall : everyByte (fun v => decide (maskIf (bitAt v 0) 0x80 = v <<< 7)) = true := rfl
  rw [BitVec.rotateRight_def]
  exact congrArg (v >>> 1 ||| ·) (of_decide_eq_true (of_everyByte hall v))

/-- Settles O41: DAA by the last operation (`Alu.daa_of_add`, `Alu.daa_of_sub`), and each instruction by its one
operation on A (`completes_alu1`, `completes_rotateA`). -/
theorem accumulatorOperations : Obligations.AccumulatorOperations := by
  refine ⟨fun g a hn => Alu.daa_of_add hn a, fun g a hn => Alu.daa_of_sub hn a, fun i s =>
    ⟨fun h => completes_alu1 .a .daa h rfl rfl, fun h => ?_, fun h => completes_alu1 .a .scf h rfl rfl,
      fun h => completes_alu1 .a .ccf h rfl rfl, fun h => ?_, fun h => ?_, fun h => completes_rotateA .rl h rfl rfl,
      fun h => completes_rotateA .rr h rfl rfl⟩⟩
  · have hcpl := completes_alu1 (s := s) .a .cpl h rfl rfl
    rwa [Alu1.apply, Alu.cpl_eq] at hcpl
  · have hrot := completes_rotateA (s := s) .rlc h rfl rfl
    rwa [Alu.shift_rlc_val] at hrot
  · have hrot := completes_rotateA (s := s) .rrc h rfl rfl
    rwa [Alu.shift_rrc_val] at hrot

/-! ### Binary-coded decimal (43_alu8 R294) -/

/-- The two BCD digits of a number below 100, as a byte. -/
def bcd (n : Nat) : Byte := BitVec.ofNat 8 (16 * (n / 10) + n % 10)

theorem toNat_bcd {n : Nat} (h : n < 100) : (bcd n).toNat = 16 * (n / 10) + n % 10 := by
  rw [bcd, BitVec.toNat_ofNat]
  omega

/-- Six tens more, the correction of the upper digit, make the byte wrap where the number wraps modulo 100. -/
theorem toNat_bcd_mod {n : Nat} (h : n < 200) :
    (bcd (n % 100)).toNat = (16 * (n / 10) + n % 10 + (if 100 ≤ n then 0x60 else 0)) % 256 := by
  rw [toNat_bcd (Nat.mod_lt _ (by decide))]
  split_ifs with hn
  · obtain ⟨m, rfl⟩ := Nat.exists_eq_add_of_le hn
    rw [Nat.add_mod_left, Nat.mod_eq_of_lt (by omega)]
    omega
  · rw [Nat.mod_eq_of_lt (by omega)]
    omega

/-- Six ones more, the correction of the lower digit, make the ones carry into the tens. -/
theorem add_six_of_carry {tens ones : Nat} (h : ones < 20) : 16 * tens + ones + (if 10 ≤ ones then 6 else 0) =
    16 * ((10 * tens + ones) / 10) + (10 * tens + ones) % 10 := by
  split_ifs <;> omega

/-- Before any correction the byte already says whether the digits come to 100. -/
theorem exceeds_0x99_iff {tens ones : Nat} (h : ones < 20) : 0x99 < 16 * tens + ones ↔ 100 ≤ 10 * tens + ones := by
  obtain hlt | heq | hgt := lt_trichotomy tens 9
  · omega
  · omega
  · omega

theorem Alu.toNat_daa_of_add {g : Flags} (hn : g.n = false) (a : Byte) {high low : Prop} [Decidable high]
    [Decidable low] (hhigh : g.c = true ∨ 0x99 < a.toNat ↔ high) (hlow : g.h = true ∨ 0x09 < a.toNat % 16 ↔ low) :
    (Alu.daa g a).val.toNat = (a.toNat + (if low then 0x06 else 0) + (if high then 0x60 else 0)) % 256 ∧
      (Alu.daa g a).flags.c = decide high := by
  rw [Alu.daa_of_add hn]
  simp only [Bool.or_eq_true, decide_eq_true_eq, hhigh, hlow]
  constructor
  · split_ifs <;> bv_omega
  · simp only [← hhigh, Bool.decide_or, Bool.decide_eq_true]

theorem Alu.toNat_daa_of_sub {g : Flags} (hn : g.n = true) (a : Byte) {high low : Prop} [Decidable high]
    [Decidable low] (hhigh : g.c = true ↔ high) (hlow : g.h = true ↔ low) :
    ((Alu.daa g a).val.toNat : Int) = (a.toNat - (if low then 0x06 else 0) - (if high then 0x60 else 0)) % 256 ∧
      (Alu.daa g a).flags.c = decide high := by
  rw [Alu.daa_of_sub hn]
  simp only [hhigh, hlow]
  constructor
  · split_ifs <;> bv_omega
  · simp only [← hhigh, Bool.decide_eq_true]

/-- The sum is one of tens and of ones, each below 20; DAA carries first from the ones and then from the tens. -/
theorem daa_add8_bcd {a b : Nat} (cin : Bool) (ha : a < 100) (hb : b < 100) :
    let sum := Alu.add8 (bcd a) (bcd b) cin
    (Alu.daa sum.flags sum.val).val = bcd ((a + b + cin.toNat) % 100) ∧
      (Alu.daa sum.flags sum.val).flags.c = decide (100 ≤ a + b + cin.toNat) := by
  intro sum
  obtain ⟨hval, hflags⟩ : sum.val.toNat = _ ∧ sum.flags = _ := addSubHelpers.1 (bcd a) (bcd b) cin
  rw [toNat_lowNibble, toNat_lowNibble, toNat_bcd ha, toNat_bcd hb] at hflags
  rw [toNat_bcd ha, toNat_bcd hb] at hval
  have hcin := cin.toNat_le
  obtain ⟨tens, htens⟩ : ∃ t, t = a / 10 + b / 10 := ⟨_, rfl⟩
  obtain ⟨ones, hones⟩ : ∃ o, o = a % 10 + b % 10 + cin.toNat := ⟨_, rfl⟩
  have hlt : ones < 20 := by omega
  have hnumber : a + b + cin.toNat = 10 * tens + ones := by omega
  have hbyte : 16 * (a / 10) + a % 10 + (16 * (b / 10) + b % 10) + cin.toNat = 16 * tens + ones := by omega
  have hnibble : (16 * (a / 10) + a % 10) % 16 + (16 * (b / 10) + b % 10) % 16 + cin.toNat = ones := by omega
  rw [hbyte] at hval
  rw [hbyte, hnibble] at hflags
  have hhigh : sum.flags.c = true ∨ 0x99 < sum.val.toNat ↔ 100 ≤ 10 * tens + ones := by
    rw [hflags, hval, decide_eq_true_eq, ← exceeds_0x99_iff hlt]
    omega
  have hlow : sum.flags.h = true ∨ 0x09 < sum.val.toNat % 16 ↔ 10 ≤ ones := by
    rw [hflags, hval, decide_eq_true_eq]
    omega
  obtain ⟨hres, hcarry⟩ := Alu.toNat_daa_of_add (by rw [hflags]) sum.val hhigh hlow
  rw [hnumber]
  refine ⟨BitVec.eq_of_toNat_eq ?_, hcarry⟩
  rw [toNat_bcd_mod (by omega), hres, hval, add_assoc, Nat.mod_add_mod, ← add_assoc, add_six_of_carry hlt]

/-- Seen from 100 above (0xA0 in the byte) a borrow is the lack of a carry, so the wrap is that of the addition. -/
theorem daa_sub8_bcd {a b : Nat} (cin : Bool) (ha : a < 100) (hb : b < 100) :
    let diff := Alu.sub8 (bcd a) (bcd b) cin
    (Alu.daa diff.flags diff.val).val = bcd ((100 + a - b - cin.toNat) % 100) ∧
      (Alu.daa diff.flags diff.val).flags.c = decide (a < b + cin.toNat) := by
  intro diff
  obtain ⟨hval, hflags⟩ : (diff.val.toNat : Int) = _ ∧ diff.flags = _ := addSubHelpers.2 (bcd a) (bcd b) cin
  rw [toNat_lowNibble, toNat_lowNibble, toNat_bcd ha, toNat_bcd hb] at hflags
  rw [toNat_bcd ha, toNat_bcd hb] at hval
  have hcin := cin.toNat_le
  have hhigh : diff.flags.c = true ↔ a < b + cin.toNat := by
    rw [hflags, decide_eq_true_eq]
    omega
  have hlow : diff.flags.h = true ↔ a % 10 < b % 10 + cin.toNat := by
    rw [hflags, decide_eq_true_eq]
    omega
  obtain ⟨hres, hcarry⟩ := Alu.toNat_daa_of_sub (by rw [hflags]) diff.val hhigh hlow
  obtain ⟨n, hn⟩ : ∃ n, n = 100 + a - b - cin.toNat := ⟨_, rfl⟩
  have hborrow : a < b + cin.toNat ↔ ¬ 100 ≤ n := by omega
  have hdigits : ((16 * (a / 10) + a % 10 : Nat) : Int) - (16 * (b / 10) + b % 10 : Nat) - cin.toNat -
      (if a % 10 < b % 10 + cin.toNat then 6 else 0) + 0xA0 = (16 * (n / 10) + n % 10 : Nat) := by
    split_ifs <;> omega
  refine ⟨BitVec.eq_of_toNat_eq ?_, hcarry⟩
  rw [← hn, toNat_bcd_mod (by omega)]
  simp only [hborrow, ite_not] at hres
  generalize (if a % 10 < b % 10 + cin.toNat then (6 : Int) else 0) = six at hdigits hres
  split_ifs at hres ⊢ <;> omega

/-- Settles O42: DAA after the two helpers (`daa_add8_bcd`, `daa_sub8_bcd`); N is kept and H cleared by definition. -/
theorem daaAdjustsBcd : Obligations.DaaAdjustsBcd := by
  refine ⟨fun _ _ cin _ ha hb => ?_, fun _ _ cin ha hb => daa_sub8_bcd cin ha hb⟩
  obtain ⟨hval, hcarry⟩ := daa_add8_bcd cin ha hb
  exact ⟨hval, hcarry, rfl, rfl⟩

end Sys2Proof.Machine

/-! ## 16-bit arithmetic: the statements of the family 44_alu16 -/

namespace Sys2Proof.Machine

/-! ### The micro-operations on a word (40_cpu_fsm R187) -/

section
variable (u : State) (r : Regs) (ctx : Word) (index : Nat) (b : Bool) (rest : List MicroOp)

@[simp] theorem runOps_addHl_midway (rr : Reg16) : runOps b (.addHl rr :: rest) (u.midway r ctx index) =
    runOps b rest (u.midway (r.setFlags (Alu.addHl r.flags ctx (r.get16 rr)).flags)
      (Alu.addHl r.flags ctx (r.get16 rr)).val (index + 1)) :=
  runOps_plain_midway u r ctx index b rest rfl rfl (fun _ => rfl) rfl

/-- The hook's check is on the context before it steps: the old value of the pair (40_cpu_fsm R196). -/
@[simp] theorem runOps_inc16_midway : runOps b (.inc16 :: rest) (u.midway r ctx index) =
    runOps b rest ((oamBug (MicroOp.causeIf ctx .incDec) u).midway r (ctx + 1) (index + 1)) :=
  runOps_plain_midway u r ctx index b rest rfl rfl (fun _ => rfl) rfl

@[simp] theorem runOps_dec16_midway : runOps b (.dec16 :: rest) (u.midway r ctx index) =
    runOps b rest ((oamBug (MicroOp.causeIf ctx .incDec) u).midway r (ctx - 1) (index + 1)) :=
  runOps_plain_midway u r ctx index b rest rfl rfl (fun _ => rfl) rfl

end

/-! ### ADD HL, INC and DEC of a pair (44_alu16 R320 to R322) -/

@[simp] theorem Regs.load_r16 (r : Regs) (rr : Reg16) : r.load (.r16 rr) = r.get16 rr := rfl

/-- By definition: a word sum is the sum of the values modulo 2^16, and exceeding 0x0FFF or 0xFFFF is reaching the next
power of two (44_alu16 R320). -/
theorem Alu.addHl_eq (g : Flags) (hl v : Word) : Alu.addHl g hl v =
    { val := hl + v
      flags := { z := g.z, n := false, h := decide (hl.toNat % 4096 + v.toNat % 4096 ≥ 4096)
                 c := decide (hl.toNat + v.toNat ≥ 65536) } } := rfl

/-- Settles O43: ADD HL is the ALU's sum of the two pairs (`Alu.addHl_eq`); INC and DEC check the hook by the pair's old
value (`runOps_inc16_midway`, `runOps_dec16_midway`), and no operation of theirs writes F. -/
theorem wordArithmetic : Obligations.WordArithmetic := by
  refine fun i s rr => ⟨fun h => completes_of_ops h rfl ?_, fun h => completes_of_ops h rfl ?_,
    fun h => completes_of_ops h rfl ?_⟩
  · rw [Form.ops, Micro.addHlRr, runOps_ldr_midway, runOps_addHl_midway, runOps_wait_midway, runOps_str_midway,
      Regs.load_r16, Alu.addHl_eq]
    exact ends_midway
  · rw [Form.ops, Micro.incRr, runOps_ldr_midway, runOps_inc16_midway, runOps_wait_midway, runOps_str_midway,
      Regs.load_r16]
    exact ends_midway
  · rw [Form.ops, Micro.decRr, runOps_ldr_midway, runOps_dec16_midway, runOps_wait_midway, runOps_str_midway,
      Regs.load_r16]
    exact ends_midway

end Sys2Proof.Machine

/-! ## Rotates, shifts and bits: the statements of the family 45_rotate_shift_bit -/

namespace Sys2Proof.Machine

/-! ### The eight rotates and shifts (45_rotate_shift_bit R334 to R341, R345) -/

/-- Settles O44: each is one operation of the ALU on its operand (`completes_alu1`, `completesStoring_alu1`). -/
theorem rotateShift : Obligations.RotateShift := fun _ _ op =>
  ⟨fun r h => completes_alu1 r (.shift op) h rfl rfl, fun h => completesStoring_alu1 (.shift op) h rfl rfl⟩

theorem getLsbD_maskIf_twoPow (b : Bool) {i : Nat} (hi : i < 8) (k : Nat) :
    (maskIf b (BitVec.twoPow 8 i)).getLsbD k = (b && decide (i = k)) := by
  cases b
  · exact BitVec.getLsbD_zero
  · rw [maskIf, if_pos rfl, BitVec.getLsbD_twoPow, decide_eq_true hi]

/-- A shift to the left by one that puts `b` in at bit 0. -/
theorem getLsbD_shiftLeft_one_or (v : Byte) (b : Bool) {k : Nat} (hk : k < 8) :
    (v <<< 1 ||| maskIf b 0x01).getLsbD k = if k = 0 then b else v.getLsbD (k - 1) := by
  have hmask : (maskIf b 0x01).getLsbD k = (b && decide (0 = k)) := getLsbD_maskIf_twoPow b (i := 0) (by decide) k
  rw [BitVec.getLsbD_or, BitVec.getLsbD_shiftLeft, hmask]
  by_cases h0 : k = 0
  · simp [h0]
  · simp [h0, Ne.symm h0, hk]

/-- A shift to the right by one that puts `b` in at bit 7: bit 8 of the byte is not there. -/
theorem getLsbD_ushiftRight_one_or (v : Byte) (b : Bool) (k : Nat) :
    (v >>> 1 ||| maskIf b 0x80).getLsbD k = if k = 7 then b else v.getLsbD (k + 1) := by
  have hmask : (maskIf b 0x80).getLsbD k = (b && decide (7 = k)) := getLsbD_maskIf_twoPow b (i := 7) (by decide) k
  rw [BitVec.getLsbD_or, BitVec.getLsbD_ushiftRight, hmask, Nat.add_comm]
  by_cases h7 : k = 7
  · simp [h7]
  · simp [h7, Ne.symm h7]

/-- SLA is RL with a clear carry. -/
theorem Alu.shift_sla_val (g : Flags) (v : Byte) : (Alu.shift .sla g v).val = v <<< 1 ||| maskIf false 0x01 :=
  BitVec.or_zero.symm

/-- SRL is RR with a clear carry. -/
theorem Alu.shift_srl_val (g : Flags) (v : Byte) : (Alu.shift .srl g v).val = v >>> 1 ||| maskIf false 0x80 :=
  BitVec.or_zero.symm

/-- SRA is RR with bit 7 for its carry. -/
theorem Alu.shift_sra_val (g : Flags) (v : Byte) :
    (Alu.shift .sra g v).val = v >>> 1 ||| maskIf (v.getLsbD 7) 0x80 :=
  congrArg (v >>> 1 ||| ·) (BitVec.and_twoPow v 7)

theorem Alu.shift_swap_val (g : Flags) (v : Byte) : (Alu.shift .swap g v).val = v.rotateLeft 4 := by
  rw [BitVec.rotateLeft_def]
  rfl

/-- Settles O45: every shift by one puts a bit of its own in at one end (`getLsbD_shiftLeft_one_or`,
`getLsbD_ushiftRight_one_or`); the flags hold by definition, C by the operation. -/
theorem rotateShiftResults : Obligations.RotateShiftResults := by
  refine ⟨fun g v => ⟨Alu.shift_rlc_val g v, Alu.shift_rrc_val g v, fun k hk => getLsbD_shiftLeft_one_or v g.c hk,
    fun k _ => getLsbD_ushiftRight_one_or v g.c k, fun k hk => ?_, fun k _ => ?_, fun k _ => ?_,
    Alu.shift_swap_val g v⟩, fun op g v => ⟨rfl, rfl, rfl, ?_⟩⟩
  · rw [Alu.shift_sla_val, getLsbD_shiftLeft_one_or v false hk]
    by_cases h0 : k = 0 <;> simp [h0]
  · rw [Alu.shift_sra_val, getLsbD_ushiftRight_one_or]
    by_cases h7 : k = 7 <;> simp [h7]
  · rw [Alu.shift_srl_val, getLsbD_ushiftRight_one_or]
    by_cases h7 : k = 7 <;> simp [h7]
  · cases op <;> rfl

/-! ### BIT, RES and SET (45_rotate_shift_bit R342 to R345) -/

section
variable (u : State) (r : Regs) (ctx : Word) (index : Nat) (b : Bool) (rest : List MicroOp) (k : Fin 8)

@[simp] theorem runOps_bit_midway : runOps b (.bit k :: rest) (u.midway r ctx index) =
    runOps b rest (u.midway (r.setFlags (Alu.bitTest r.flags k.val (loByte ctx))) ctx (index + 1)) :=
  runOps_plain_midway u r ctx index b rest rfl rfl (fun _ => rfl) rfl

@[simp] theorem runOps_bitHl_midway : runOps true (.bitHl k :: rest) (u.midway r ctx index) =
    runOps true rest ((nextCycle u).midway
      (r.setFlags (Alu.bitTest r.flags k.val (memRead (nextCycle u) r.hl))) ctx (index + 1)) :=
  runOps_taken_midway u r ctx index rest rfl rfl (fun _ => rfl) rfl

@[simp] theorem runOps_res_midway : runOps b (.res k :: rest) (u.midway r ctx index) =
    runOps b rest (u.midway r (ctx &&& ~~~(1#16 <<< k.val)) (index + 1)) :=
  runOps_plain_midway u r ctx index b rest rfl rfl (fun _ => rfl) rfl

@[simp] theorem runOps_set_midway : runOps b (.set k :: rest) (u.midway r ctx index) =
    runOps b rest (u.midway r (ctx ||| (1#16 <<< k.val)) (index + 1)) :=
  runOps_plain_midway u r ctx index b rest rfl rfl (fun _ => rfl) rfl

end

/-- RES in the context is RES in its low byte: the mask's bit lies there. -/
theorem loByte_res (v : Byte) (k : Fin 8) : loByte (zext16 v &&& ~~~(1#16 <<< k.val)) = v &&& ~~~(1#8 <<< k.val) := by
  have hmask : ∀ k : Fin 8, loByte (~~~(1#16 <<< k.val)) = ~~~(1#8 <<< k.val) := by decide
  rw [← hmask k, loByte, BitVec.extractLsb'_and]
  exact congrArg (· &&& _) (loByte_zext16 v)

theorem loByte_set (v : Byte) (k : Fin 8) : loByte (zext16 v ||| (1#16 <<< k.val)) = v ||| (1#8 <<< k.val) := by
  have hmask : ∀ k : Fin 8, loByte (1#16 <<< k.val) = 1#8 <<< k.val := by decide
  rw [← hmask k, loByte, BitVec.extractLsb'_or]
  exact congrArg (· ||| _) (loByte_zext16 v)

/-- Settles O46: BIT only sets flags; RES and SET go through the context, whose low byte is the result (`loByte_res`,
`loByte_set`). -/
theorem bitOperations : Obligations.BitOperations := by
  refine fun i s k => ⟨fun r h => completes_of_ops h rfl ?_, fun h => completes_of_ops h rfl ?_,
    fun r h => completes_of_ops h rfl ?_, fun r h => completes_of_ops h rfl ?_,
    fun h => ⟨completes_of_ops h rfl ?_, stored_memWrite _ _ _⟩,
    fun h => ⟨completes_of_ops h rfl ?_, stored_memWrite _ _ _⟩⟩
  · rw [Form.ops, Micro.bitR, runOps_ldr_midway, runOps_bit_midway, Regs.load_r8, loByte_zext16]
    exact ends_midway
  · rw [Form.ops, Micro.bitHl, runOps_bitHl_midway]
    exact ends_midway
  · rw [Form.ops, Micro.resR, runOps_ldr_midway, runOps_res_midway, runOps_str_midway, Regs.load_r8, Regs.store,
      loByte_res]
    exact ends_midway
  · rw [Form.ops, Micro.setR, runOps_ldr_midway, runOps_set_midway, runOps_str_midway, Regs.load_r8, Regs.store,
      loByte_set]
    exact ends_midway
  · rw [Form.ops, Micro.resHl, runOps_rd_midway, runOps_res_midway, runOps_wr_midway, loByte_res]
    exact ends_midway
  · rw [Form.ops, Micro.setHl, runOps_rd_midway, runOps_set_midway, runOps_wr_midway, loByte_set]
    exact ends_midway

end Sys2Proof.Machine

/-! ## Jumps, calls and returns: the statements of the family 46_control_transfer -/

namespace Sys2Proof.Machine

/-! ### The micro-operations of control transfer (40_cpu_fsm R182, R185, R187) -/

@[simp] theorem Regs.load_pc (r : Regs) : r.load .pc = r.pc := rfl

@[simp] theorem Regs.store_pc (r : Regs) (v : Word) : r.store .pc v = { r with pc := v } := rfl

section
variable (u : State) (r : Regs) (ctx : Word) (index : Nat) (b : Bool) (rest : List MicroOp)

@[simp] theorem runOps_const_midway (v : Word) :
    runOps b (.const v :: rest) (u.midway r ctx index) = runOps b rest (u.midway r v (index + 1)) :=
  runOps_plain_midway u r ctx index b rest rfl rfl (fun _ => rfl) rfl

@[simp] theorem runOps_addRel_midway (e : Byte) :
    runOps b (.addRel e :: rest) (u.midway r ctx index) = runOps b rest (u.midway r (ctx + sext16 e) (index + 1)) :=
  runOps_plain_midway u r ctx index b rest rfl rfl (fun _ => rfl) rfl

@[simp] theorem runOps_imeOn_midway (delay : Bool) : runOps b (.imeOn delay :: rest) (u.midway r ctx index) =
    runOps b rest ((enableInterrupts delay u).midway r ctx (index + 1)) :=
  runOps_plain_midway u r ctx index b rest rfl rfl (fun _ => rfl) rfl

/-- The operations after FIN start in the next M-cycle, whose slot is free. -/
@[simp] theorem runOps_fin_midway : runOps b (.fin :: rest) (u.midway r ctx index) =
    runOps false rest ((nextCycle u).midway r ctx (index + 1)) := by
  rw [runOps_fin, MicroOp.step_midway]
  exact congrArg (runOps false rest) (nextCycle_midway u r ctx (index + 1))

theorem State.setOpIndex_midway (n : Nat) : (u.midway r ctx index).setOpIndex n = u.midway r ctx n := rfl

end

section
variable {u : State} {r : Regs} {ctx : Word} {index : Nat} {b : Bool} {rest : List MicroOp} {cc : Cond}

theorem MicroOp.step_ifCc_midway : (MicroOp.ifCc cc).step (u.midway r ctx index) = u.midway r ctx (index + 1) := rfl

theorem runOps_ifCc_midway_of_holds (hcc : r.flags.holds cc = true) :
    runOps b (.ifCc cc :: rest) (u.midway r ctx index) = runOps b rest (u.midway r ctx (index + 1)) := by
  have htaken : (u.midway r ctx index).regs.flags.holds cc = true := hcc
  rw [runOps_ifCc, if_pos htaken, MicroOp.step_ifCc_midway]

/-- A condition that fails ends the instruction at once; what is left of its list only counts in the micro-op index. -/
theorem ends_ifCc_midway_of_not_holds (hcc : r.flags.holds cc = false) :
    Ends u r (runOps b (.ifCc cc :: rest) (u.midway r ctx index)) := by
  have huntaken : ¬ (u.midway r ctx index).regs.flags.holds cc = true := ne_true_of_eq_false hcc
  rw [runOps_ifCc, if_neg huntaken, MicroOp.step_ifCc_midway, State.setOpIndex_midway]
  exact ends_finish r rfl

end

/-! ### Jumps (46_control_transfer R360 to R365) -/

section
variable {u : State} {r : Regs} {ctx : Word} {index : Nat}

theorem ends_jumpTo_midway :
    Ends (nextCycle u) { r with pc := ctx } (runOps true [.str .pc, .wait] (u.midway r ctx index)) := by
  rw [runOps_str_midway, runOps_wait_midway]
  exact ends_midway

theorem ends_jumpBy_midway {e : Int} (he : displacementOk e = true) :
    Ends (nextCycle u) { r with pc := ctx + BitVec.ofInt 16 e }
      (runOps true [.addRel (BitVec.ofInt 8 e), .wait, .str .pc] (u.midway r ctx index)) := by
  rw [runOps_addRel_midway, runOps_wait_midway, runOps_str_midway, sext16_displacement he]
  exact ends_midway

end

theorem Flags.holds_eq (g : Flags) :
    g.holds .nz = !g.z ∧ g.holds .z = g.z ∧ g.holds .nc = !g.c ∧ g.holds .c = g.c := ⟨rfl, rfl, rfl, rfl⟩

/-- Settles O47: a jump, absolute or relative, is what is left of its list once its condition holds
(`ends_jumpTo_midway`, `ends_jumpBy_midway`). -/
theorem jumps : Obligations.Jumps := by
  refine fun i s => ⟨fun nn h => completes_of_ops h rfl ?_, fun h => completes_of_ops h rfl ?_,
    fun e h hwf => completes_of_ops h rfl ?_,
    fun cc nn h => ⟨fun hcc => completes_of_ops h rfl ?_, fun hcc => completes_of_ops h rfl ?_⟩,
    fun cc e h hwf => ⟨fun hcc => completes_of_ops h rfl ?_, fun hcc => completes_of_ops h rfl ?_⟩, Flags.holds_eq⟩
  · rw [Form.ops, Micro.jp, runOps_imm16_midway]
    exact ends_jumpTo_midway
  · rw [Form.ops, Micro.jpHl, runOps_ldr_midway, runOps_str_midway]
    exact ends_midway
  · rw [Form.ops, Micro.jr, runOps_ldr_midway]
    exact ends_jumpBy_midway (wf_of_form h hwf)
  · rw [Form.ops, Micro.jpCc, runOps_imm16_midway, runOps_ifCc_midway_of_holds hcc]
    exact ends_jumpTo_midway
  · rw [Form.ops, Micro.jpCc, runOps_imm16_midway]
    exact ends_ifCc_midway_of_not_holds hcc
  · rw [Form.ops, Micro.jrCc, runOps_ldr_midway, runOps_ifCc_midway_of_holds hcc]
    exact ends_jumpBy_midway (wf_of_form h hwf)
  · rw [Form.ops, Micro.jrCc, runOps_ldr_midway]
    exact ends_ifCc_midway_of_not_holds hcc

/-! ### Calls and restarts (46_control_transfer R366, R367, R371) -/

/-- Settles O48: pc goes through the context to the stack (`runOps_pushWord_midway`); RST lets one more M-cycle pass
before it jumps. -/
theorem callsAndRestarts : Obligations.CallsAndRestarts := by
  refine fun i s => ⟨fun nn h => ⟨completes_of_ops h rfl ?_, pushStores _ _ _⟩,
    fun cc nn h => ⟨fun hcc => ⟨completes_of_ops h rfl ?_, pushStores _ _ _⟩, fun hcc => completes_of_ops h rfl ?_⟩,
    fun y h => ⟨completes_of_ops h rfl ?_, pushStores _ _ _⟩⟩
  · rw [Form.ops, Micro.call, runOps_ldr_midway, runOps_wait_midway, runOps_pushWord_midway, runOps_imm16_midway,
      runOps_str_midway, Regs.load_pc, Regs.store_pc]
    exact ends_midway
  · rw [Form.ops, Micro.callCc, runOps_ifCc_midway_of_holds hcc, runOps_wait_midway, runOps_ldr_midway,
      runOps_pushWord_midway, runOps_imm16_midway, runOps_str_midway, Regs.load_pc, Regs.store_pc]
    exact ends_midway
  · rw [Form.ops, Micro.callCc]
    exact ends_ifCc_midway_of_not_holds hcc
  · rw [Form.ops, Micro.rst, runOps_ldr_midway, runOps_pushWord_midway, runOps_fin_midway, runOps_const_midway,
      runOps_str_midway, Regs.load_pc, Regs.store_pc]
    exact ends_midway

/-! ### Returns (46_control_transfer R368 to R370) -/

theorem runOps_popPc_midway (u : State) (r : Regs) (ctx : Word) (index : Nat) (rest : List MicroOp) :
    runOps true (.popLo :: .popHi :: .fin :: .str .pc :: rest) (u.midway r ctx index) =
      runOps false rest ((nextCycle (poppedState r.sp (nextCycle u))).midway
        { r with sp := r.sp + 2, pc := poppedWord r.sp (nextCycle u) } (poppedWord r.sp (nextCycle u)) (index + 4)) := by
  rw [runOps_popWord_midway, runOps_fin_midway, runOps_str_midway, Regs.store_pc]

/-- Settles O49: every return pops pc and writes it past FIN (`runOps_popPc_midway`); RETI's last operation sets IME
without a delay, which by definition idles both counters. -/
theorem returns : Obligations.Returns := by
  refine fun i s => ⟨fun h => completes_of_ops h rfl ?_,
    fun cc h => ⟨fun hcc => completes_of_ops h rfl ?_, fun hcc => completes_of_ops h rfl ?_⟩,
    fun h => completes_of_ops h rfl ?_⟩
  · rw [Form.ops, Micro.ret, runOps_popPc_midway]
    exact ends_midway
  · rw [Form.ops, Micro.retCc, runOps_wait_midway, runOps_ifCc_midway_of_holds hcc, runOps_popPc_midway]
    exact ends_midway
  · rw [Form.ops, Micro.retCc, runOps_wait_midway]
    exact ends_ifCc_midway_of_not_holds hcc
  · rw [Form.ops, Micro.reti, runOps_popPc_midway, runOps_imeOn_midway]
    exact ends_midway

end Sys2Proof.Machine

/-! ## The system instructions and the undefined bytes: the statements of the family 47_system -/

/-! ### The undefined bytes as instructions (30_encoding R145, 47_system R385) -/

namespace Sys2Proof

/-- The bytes without a table entry. -/
def undefinedBytes : List Byte := [0xD3, 0xDB, 0xDD, 0xE3, 0xE4, 0xEB, 0xEC, 0xED, 0xF4, 0xFC, 0xFD]

theorem mem_undefinedBytes : ∀ b : Byte, b ∈ undefinedBytes ↔ Decode.isUndefined b = true := by decide

/-- An ill-formed instruction has a displacement, which takes a second byte. -/
theorem wf_of_encode_eq_singleton {i : Instr} {b : Byte} (h : encode i = [b]) : i.wf = true := by
  unfold encode at h
  unfold Instr.wf
  cases hf : Machine.form i with
  | jr e => rw [hf] at h; cases h
  | jrCc cc e => rw [hf] at h; cases h
  | ldHlSpR8 e => rw [hf] at h; cases h
  | addSpR8 e => rw [hf] at h; cases h
  | _ => rfl

/-- A one-byte encoding determines its instruction. -/
theorem eq_decodeBytes_of_encode_eq_singleton {i : Instr} {b : Byte} (h : encode i = [b]) :
    i = Decode.decodeBytes b 0 0 := by
  have hdec := decodeEncodeRoundTrip i [0, 0] (wf_of_encode_eq_singleton h)
  rw [h, List.singleton_append, decode_three] at hdec
  injection hdec with hdec
  exact (congrArg Prod.fst hdec).symm

theorem isUndefined_of_form_decodeBytes :
    ∀ b : Byte, Machine.form (Decode.decodeBytes b 0 0) = .illegal b → Decode.isUndefined b = true := by decide

theorem form_eq_illegal_iff {i : Instr} {b : Byte} :
    Machine.form i = .illegal b ↔ b ∈ undefinedBytes ∧ [b] = encode i := by
  rw [mem_undefinedBytes]
  constructor
  · intro hform
    have henc : encode i = [b] := by rw [encode, hform]; rfl
    exact ⟨isUndefined_of_form_decodeBytes b (eq_decodeBytes_of_encode_eq_singleton henc ▸ hform), henc.symm⟩
  · rintro ⟨hu, henc⟩
    rw [eq_decodeBytes_of_encode_eq_singleton henc.symm, Machine.form_undefined hu]

end Sys2Proof

namespace Sys2Proof.Machine

/-! ### The step that fetches an undefined byte (60_exceptions R540) -/

section
variable {u : State} (hu : Decode.isUndefined (memRead u u.regs.pc) = true)
include hu

/-- The fetch reads no other byte and leaves pc at this one. -/
theorem fetch_undefined : fetch u = u.withCpu u.regs (fetchOpcode u).eng := by
  have hregs : (fetchOpcode u).regs = u.regs := if_pos (by rw [hu, Bool.true_or])
  have hfetch : fetch u = fetchOpcode u := if_pos hu
  rw [hfetch, ← hregs]
  rfl

/-- The exception ends the step: the other agents do not finish the tick (log 8). -/
theorem runInstruction_undefined : runInstruction u =
    .next (raiseUnknownOpcode (memRead u u.regs.pc) (u.withCpu u.regs (fetchOpcode u).eng)) := by
  have hform : form (u.withCpu u.regs (fetchOpcode u).eng).eng.instr = .illegal (memRead u u.regs.pc) :=
    form_undefined hu _ _
  rw [runInstruction, fetch_undefined hu, exec_of_form hform]
  rfl

end

/-- Settles O7: the undefined instructions are those of the eleven undefined bytes (`form_eq_illegal_iff`), and a step
that fetches one ends with the exception (`runInstruction_undefined`). -/
theorem undefinedOpcodeRaises : Obligations.UndefinedOpcodeRaises := by
  refine ⟨fun i b s h => exec_of_form h s, fun i => ?_, ?_⟩
  · have hlist : encode i ∈ undefinedBytes.map (fun b => [b]) ↔ ∃ b, form i = .illegal b :=
      List.mem_map.trans (exists_congr fun _ => form_eq_illegal_iff.symm)
    exact hlist.symm
  · rintro s ⟨hf, hs, hfsm, hquiet⟩ hu
    have hstep : step s = leaveLoop s (runInstruction (nextSlot s)) := by
      rw [step_of_idle hf hs (by rw [hfsm]; rfl), stepAtSlot_opcode hquiet ((nextSlot_fsm s).trans hfsm)]
    rw [← nextSlot_regs s] at hu ⊢
    rw [hstep, runInstruction_undefined hu]
    exact ⟨_, rfl, rfl, rfl, rfl⟩

/-! ### NOP, DI, EI (47_system R380, R383, R384) -/

@[simp] theorem runOps_imeOff_midway (u : State) (r : Regs) (ctx : Word) (index : Nat) (b : Bool) (rest : List MicroOp)
    (delay : Bool) : runOps b (.imeOff delay :: rest) (u.midway r ctx index) =
      runOps b rest ((disableInterrupts delay u).midway r ctx (index + 1)) :=
  runOps_plain_midway u r ctx index b rest rfl rfl (fun _ => rfl) rfl

/-- Settles O50: NOP's list is empty, and DI and EI have one operation each, the request. -/
theorem nopDiEi : Obligations.NopDiEi := by
  refine fun i s => ⟨fun h => completes_of_ops h rfl ?_, fun h => completes_of_ops h rfl ?_,
    fun h => completes_of_ops h rfl ?_⟩
  · rw [Form.ops, Micro.nop]
    exact ends_midway
  · rw [Form.ops, Micro.di, runOps_imeOff_midway]
    exact ends_midway
  · rw [Form.ops, Micro.ei, runOps_imeOn_midway]
    exact ends_midway

/-! ### HALT and STOP (47_system R381, R382) -/

theorem Speed.toggle_eq (v : Speed) : v.toggle = if v = .normal then .double else .normal := by
  cases v <;> rfl

section
variable (s : State)

theorem halt_eq : halt s = { s with
    eng := { s.eng with
      fsm := if s.irq.pending = true ∧ s.irq.ime = false then .opcode else .halted
      haltBugMode := if s.irq.pending = true ∧ s.irq.ime = false then true else s.eng.haltBugMode } } := by
  have hcond : (s.irq.pending && !s.irq.ime) = true ↔ s.irq.pending = true ∧ s.irq.ime = false := by
    rw [Bool.and_eq_true, Bool.not_eq_true']
  by_cases hbug : s.irq.pending = true ∧ s.irq.ime = false
  · rw [halt, if_pos (hcond.2 hbug), if_pos hbug, if_pos hbug]
  · rw [halt, if_neg (hbug ∘ hcond.1), if_neg hbug, if_neg hbug]
    rfl

theorem stop_of_armed (h : s.cfg.cgb = true ∧ s.spd.prepareSwitch = true) : stop s = { s with
    eng := { s.eng with fsm := .opcode }
    spd := { speed := if s.spd.speed = .normal then .double else .normal, prepareSwitch := false } } := by
  rw [stop, if_pos (Bool.and_eq_true_iff.2 h), Speed.toggle_eq]
  rfl

theorem stop_of_not_armed (h : ¬ (s.cfg.cgb = true ∧ s.spd.prepareSwitch = true)) : stop s = { s with
    eng := { s.eng with fsm := .stopped }
    host := { s.host with calls := .disableLcd :: s.host.calls } } := by
  rw [stop, if_neg (h ∘ Bool.and_eq_true_iff.1)]
  rfl

end

/-- Settles O51: each form has a meaning of its own, without the end of an instruction (`halt_eq`, `stop_of_armed`,
`stop_of_not_armed`). -/
theorem haltAndStop : Obligations.HaltAndStop := by
  refine fun i s => ⟨fun h => ?_, fun b h harmed => ?_, fun b h harmed => ?_⟩
  · rw [exec_of_form h, ← halt_eq s]
    rfl
  · rw [exec_of_form h, ← stop_of_armed s harmed]
    rfl
  · rw [exec_of_form h, ← stop_of_not_armed s harmed]
    rfl

end Sys2Proof.Machine

/-! ## The device registers, and the PPU: the statements of the family 48_ppu -/

/-! ### Registers in the memory map (20_memory R94) -/

namespace Sys2Proof.Machine

theorem mapped_of_dmg {n : Nat} (h : mapped false n = true) (cgb : Bool) : mapped cgb n = true := by
  cases cgb with
  | false => exact h
  | true =>
    simp only [mapped, Bool.false_and, Bool.or_false] at h
    simp only [mapped, h, Bool.true_or]

/-- The addresses of the registers that both variants have. -/
def isRegister (a : Word) : Bool := decide (0xFF00 ≤ a.toNat) && decide (a.toNat < 0xFF80) && mapped false a.toNat

/-- The addresses of the registers of a CGB. -/
def isCgbRegister (a : Word) : Bool := decide (0xFF00 ≤ a.toNat) && decide (a.toNat < 0xFF80) && mapped true a.toNat

section
variable (s : State) {a : Word}

theorem place_register (h : isRegister a = true) : place s a = .device a.toNat := by
  simp only [isRegister, Bool.and_eq_true, decide_eq_true_eq] at h
  obtain ⟨⟨hlo, hhi⟩, hm⟩ := h
  rw [place_io s hlo hhi, mapped_of_dmg hm, if_pos rfl]

theorem place_cgbRegister (hc : s.cfg.cgb = true) (h : isCgbRegister a = true) : place s a = .device a.toNat := by
  simp only [isCgbRegister, Bool.and_eq_true, decide_eq_true_eq] at h
  obtain ⟨⟨hlo, hhi⟩, hm⟩ := h
  rw [place_io s hlo hhi, hc, hm, if_pos rfl]

theorem memRead_register (h : isRegister a = true) : memRead s a = readDevice s a.toNat :=
  memRead_device (place_register s h)

theorem memWrite_register (h : isRegister a = true) (v : Byte) : memWrite s a v = writeDevice s a.toNat v :=
  memWrite_device v (place_register s h)

theorem memRead_cgbRegister (hc : s.cfg.cgb = true) (h : isCgbRegister a = true) : memRead s a = readDevice s a.toNat :=
  memRead_device (place_cgbRegister s hc h)

theorem memWrite_cgbRegister (hc : s.cfg.cgb = true) (h : isCgbRegister a = true) (v : Byte) :
    memWrite s a v = writeDevice s a.toNat v :=
  memWrite_device v (place_cgbRegister s hc h)

end

/-! ### The tile line (48_ppu R423) -/

/-- Settles O60: pixel `j` is the line's entry for bit `7 - j`. -/
theorem tileLinePixels : Obligations.TileLinePixels := by
  intro d1 d2 j hj
  refine ⟨rfl, ?_, rfl⟩
  simp only [zipLine, bit01_eq_toNat, bitAt, Bool.false_eq_true, if_false]
  interval_cases j <;> rfl

/-! ### What a request does to IF (60_exceptions R551) -/

theorem IrqCtl.requestIf_eq (q : IrqCtl) (b : Bool) (i : Irq) :
    q.requestIf b i = { q with ifFlags := q.ifFlags ||| (if b then 1#5 <<< i.number else 0) } := by
  cases b with
  | false => simp [IrqCtl.requestIf]
  | true => rfl

/-! ### The mode machine at the ends of its phases (48_ppu R401, R404, R436 to R438) -/

namespace Ppu

section
variable (p : Ppu)

theorem nextPhase_hblank (c : Bool) (h : p.mode = .hblank) : p.nextPhase c =
    if p.ly + 1 = 144 then
      ({ p with ticksInLine := 0, ly := p.ly + 1, mode := .vblank, vblankTicks := 0 }, true,
        p.statEn.getLsbD 1 || p.statEn.getLsbD 2 || (decide (p.lyc = p.ly + 1) && p.statEn.getLsbD 3))
    else
      (({ p with ticksInLine := 0, ly := p.ly + 1, mode := .oamSearch } : Ppu).startOamSearch, false,
        p.statEn.getLsbD 2 || (decide (p.lyc = p.ly + 1) && p.statEn.getLsbD 3)) := by
  rw [nextPhase, h]
  rfl

theorem nextPhase_vblank (c : Bool) (h : p.mode = .vblank) : p.nextPhase c =
    if p.ly + 1 = 1 then
      (({ p with ticksInLine := 0, ly := 0, mode := .oamSearch } : Ppu).startOamSearch, false,
        p.statEn.getLsbD 2 || (decide (p.lyc = 0) && p.statEn.getLsbD 3))
    else
      ({ p with ticksInLine := 0, ly := p.ly + 1, vblankTicks := 0 }, false,
        decide (p.lyc = p.ly + 1) && p.statEn.getLsbD 3) := by
  rw [nextPhase, h]
  rfl

theorem startPixelTransfer_start (c : Bool) : (p.startPixelTransfer c).mode = p.mode ∧ (p.startPixelTransfer c).x = 0 ∧
    (p.startPixelTransfer c).sprites = p.search.selected.map (fun q => (q, false)) ∧
    (p.startPixelTransfer c).lcdEnabled = p.lcdEnabled := by
  unfold startPixelTransfer
  dsimp only
  split <;> exact ⟨rfl, rfl, rfl, rfl⟩

theorem nextPhase_oamSearch (c : Bool) (h : p.mode = .oamSearch) :
    p.nextPhase c = (({ p with mode := .pixelTransfer } : Ppu).startPixelTransfer c, false, false) := by
  rw [nextPhase, h]

theorem nextPhase_pixelTransfer (c : Bool) (h : p.mode = .pixelTransfer) :
    p.nextPhase c = ({ p with mode := .hblank, hblankTicks := p.ticksInLine }, false, p.statEn.getLsbD 0) := by
  rw [nextPhase, h]
  rfl

end

section
variable {e : PpuEnv} {p : Ppu}

theorem tick_of_enabled (h : p.lcdEnabled = true) : p.tick e = p.enabledTick e [] := if_pos h

theorem enabledTick_hblank (hm : p.mode = .hblank) : p.enabledTick e [] =
    let q : Ppu := { p with ticksInLine := p.ticksInLine + 1, hblankTicks := p.hblankTicks + 1 }
    let n := q.nextPhase e.cgb
    if p.hblankTicks + 1 < 456 then { ppu := q, vblank := false, stat := false, calls := [] }
    else { ppu := n.1, vblank := n.2.1, stat := n.2.2, calls := [] } := by
  simp only [enabledTick, phaseTick, hm, decide_eq_true_eq, reduceCtorEq, false_and, and_false, if_false]
  rfl

/-- LY 153 turns to 0 in the fourth tick of its line. -/
theorem enabledTick_vblank (hm : p.mode = .vblank) : p.enabledTick e [] =
    let q : Ppu := { p with ticksInLine := p.ticksInLine + 1, vblankTicks := p.vblankTicks + 1 }
    let n := q.nextPhase e.cgb
    if p.vblankTicks + 1 < 456 then
      if p.ticksInLine + 1 = 4 ∧ p.ly = 153 then
        { ppu := { q with ly := 0 }, vblank := false, stat := decide (p.lyc = 0) && p.statEn.getLsbD 3, calls := [] }
      else { ppu := q, vblank := false, stat := false, calls := [] }
    else { ppu := n.1, vblank := n.2.1, stat := n.2.2, calls := [] } := by
  simp only [enabledTick, phaseTick, hm, decide_eq_true_eq, true_and]
  rfl

end

end Ppu

/-- Settles O57: the ends of the phases by the rule of each mode (`Ppu.nextPhase_hblank` and the like), the ticks before
them by the phase's own counter. -/
theorem ppuLineEnds : Obligations.PpuLineEnds := by
  refine ⟨fun s => ⟨rfl, ?_⟩, fun c p hm hy => ?_, fun c p hm hy => ?_, fun e p hl hm hy ht hk => ?_,
    fun c p hm hy => ?_, fun c p hm hy => ?_, fun e p hl hm hk => ?_,
    fun e p hl hm => ⟨fun hk => ?_, fun hk => ?_⟩, fun c p hm => ?_, fun c p hm => ?_⟩
  · rw [ppuTick_irq, IrqCtl.requestIf_eq, IrqCtl.requestIf_eq]
    rfl
  · rw [p.nextPhase_hblank c hm, hy, if_pos (by decide)]
    exact ⟨rfl, rfl, rfl, rfl, rfl⟩
  · rw [p.nextPhase_hblank c hm, if_neg (by bv_omega)]
    exact ⟨rfl, rfl, rfl, rfl, rfl⟩
  · rw [Ppu.tick_of_enabled hl, Ppu.enabledTick_vblank hm]
    simp only [hy, ht, if_pos (show p.vblankTicks + 1 < 456 by omega), and_self, if_true]
  · rw [p.nextPhase_vblank c hm, hy, if_pos (by decide)]
    exact ⟨rfl, rfl, rfl, rfl⟩
  · rw [p.nextPhase_vblank c hm, if_neg (by bv_omega)]
  · rw [Ppu.tick_of_enabled hl, Ppu.enabledTick_vblank hm]
    simp only [hk, Nat.lt_irrefl, if_false, and_self]
  · rw [Ppu.tick_of_enabled hl, Ppu.enabledTick_hblank hm]
    simp only [if_pos (show p.hblankTicks + 1 < 456 by omega), and_self]
  · rw [Ppu.tick_of_enabled hl, Ppu.enabledTick_hblank hm]
    simp only [hk, Nat.lt_irrefl, if_false, and_self]
  · rw [p.nextPhase_pixelTransfer c hm]
    exact ⟨rfl, rfl⟩
  · rw [p.nextPhase_oamSearch c hm]
    obtain ⟨hmode, hx, hsprites, -⟩ := Ppu.startPixelTransfer_start { p with mode := .pixelTransfer } c
    exact ⟨hmode, rfl, hx, hsprites⟩

/-! ### The LCD switched off and on (48_ppu R440, R441, R445) -/

namespace Ppu

section
variable (e : PpuEnv) (p : Ppu)

theorem fetchStep_lcdEnabled : (p.fetchStep e).lcdEnabled = p.lcdEnabled := by
  unfold fetchStep
  dsimp only
  cases p.fetcher.fstate with
  | push => dsimp only; split <;> rfl
  | _ => rfl

theorem fetcherTick_lcdEnabled : (p.fetcherTick e).lcdEnabled = p.lcdEnabled := by
  unfold fetcherTick
  split
  · split <;> rfl
  · split
    · rfl
    · exact fetchStep_lcdEnabled e { p with fetcher := { p.fetcher with divider := .two } }

theorem putPixel_lcdEnabled : (p.putPixel e).1.lcdEnabled = p.lcdEnabled := by
  unfold putPixel
  split <;> rfl

theorem spritesAndPixel_lcdEnabled : (p.spritesAndPixel e).ppu.lcdEnabled = p.lcdEnabled := by
  have hout := p.putPixel_lcdEnabled e
  unfold spritesAndPixel
  split
  · split
    · rfl
    · split
      · rfl
      · exact hout
  · exact hout

theorem transferTick_lcdEnabled : (p.transferTick e).ppu.lcdEnabled = p.lcdEnabled := by
  have hfetch := p.fetcherTick_lcdEnabled e
  have hsprites := (p.fetcherTick e).spritesAndPixel_lcdEnabled e
  unfold transferTick
  dsimp only
  split
  · split
    · exact hfetch
    · split
      · exact hfetch
      · split
        · exact hfetch
        · exact hsprites.trans hfetch
  · exact hsprites.trans hfetch

theorem phaseTick_lcdEnabled : (p.phaseTick e).ppu.lcdEnabled = p.lcdEnabled := by
  unfold phaseTick
  cases p.mode with
  | oamSearch => simp only [searchTick]; cases p.search.sub <;> rfl
  | pixelTransfer => exact p.transferTick_lcdEnabled e
  | hblank => rfl
  | vblank => rfl

theorem nextPhase_lcdEnabled (c : Bool) : (p.nextPhase c).1.lcdEnabled = p.lcdEnabled := by
  cases hm : p.mode with
  | oamSearch =>
    rw [p.nextPhase_oamSearch c hm]
    exact (startPixelTransfer_start { p with mode := .pixelTransfer } c).2.2.2
  | pixelTransfer => rw [p.nextPhase_pixelTransfer c hm]
  | hblank => rw [p.nextPhase_hblank c hm]; split <;> rfl
  | vblank => rw [p.nextPhase_vblank c hm]; split <;> rfl

/-- A tick of the mode machine does not switch the LCD, and keeps the calls made before it. -/
theorem enabledTick_lcdEnabled (calls : List HostCall) :
    (p.enabledTick e calls).ppu.lcdEnabled = p.lcdEnabled ∧ ∃ pixel, (p.enabledTick e calls).calls = pixel ++ calls := by
  have hphase := phaseTick_lcdEnabled e { p with ticksInLine := p.ticksInLine + 1 }
  unfold enabledTick
  simp only
  split
  · split <;> exact ⟨hphase, _, rfl⟩
  · exact ⟨(nextPhase_lcdEnabled _ e.cgb).trans hphase, _, rfl⟩

end

section
variable {e : PpuEnv} {p : Ppu} (hl : p.lcdEnabled = false)
include hl

theorem tick_disabled (hd : p.lcdEnabledDelay = -1) :
    p.tick e = { ppu := p, vblank := false, stat := false, calls := [] } := by
  rw [tick, hl, if_neg Bool.false_ne_true, if_pos hd]

theorem tick_delayed (hd : p.lcdEnabledDelay ≠ -1) (hd' : p.lcdEnabledDelay ≠ 1) : p.tick e =
    { ppu := { p with lcdEnabledDelay := p.lcdEnabledDelay - 1 }, vblank := false, stat := false, calls := [] } := by
  rw [tick, hl, if_neg Bool.false_ne_true, if_neg hd, if_neg (by omega)]

theorem tick_delayEnds (hd : p.lcdEnabledDelay = 1) :
    p.tick e = enabledTick e { p with lcdEnabledDelay := 0, lcdEnabled := true } [.enableLcd] := by
  rw [tick, hl, hd]
  rfl

end

end Ppu

/-! ### The registers of the PPU (48_ppu R446, R447; 10_state R44, R45) -/

theorem Ppu.writeLcdc_off (c : Config) (p : Ppu) {v : Byte} (h : v.getLsbD 7 = false) : p.writeLcdc c v =
    { p with lcdc := v, ly := 0, ticksInLine := 0, mode := .hblank, hblankTicks := c.lcdOffHblankStart
             lcdEnabled := false, lcdEnabledDelay := -1 } := if_neg (Bool.eq_false_iff.1 h)

theorem deviceCalls_lcdOff (s : State) {v : Byte} (h : v.getLsbD 7 = false) : deviceCalls s 0xFF40 v = [.disableLcd] :=
  if_neg (Bool.eq_false_iff.1 h)

/-- STAT as read: its bits stand in the order of the statement, and the mode is its number. -/
theorem Ppu.readStat_eq (p : Ppu) : p.readStat =
    0x80 ||| (p.statEn.setWidth 8 <<< 3) ||| (if p.ly = p.lyc then 4 else 0) |||
      (match p.mode with | .hblank => 0 | .vblank => 1 | .oamSearch => 2 | .pixelTransfer => 3) := by
  have hlyc : maskIf (decide (p.ly = p.lyc)) 4 = if p.ly = p.lyc then 4 else 0 := by
    rw [maskIf]
    exact if_congr decide_eq_true_iff rfl rfl
  rw [readStat, hlyc]
  cases p.mode <;> rfl

/-- The plain registers of the PPU. -/
def plainRegisters : List Word := [0xFF42, 0xFF43, 0xFF45, 0xFF47, 0xFF48, 0xFF49, 0xFF4A, 0xFF4B]

theorem memRead_memWrite_plainRegister (s : State) {a : Word} (v : Byte) (ha : a ∈ plainRegisters) :
    memRead (memWrite s a v) a = v ∧ (memWrite s a v).irq = s.irq := by
  have hall : plainRegisters.all isRegister = true := by decide
  have hreg := List.all_eq_true.1 hall a ha
  rw [memRead_register _ hreg, memWrite_register s hreg]
  simp only [plainRegisters, List.mem_cons, List.not_mem_nil, or_false] at ha
  rcases ha with rfl | rfl | rfl | rfl | rfl | rfl | rfl | rfl <;> exact ⟨rfl, rfl⟩

/-- Settles O56: the registers by the unit's own read and write, the ticks of a disabled LCD by its delay; the tick that
ends the delay is one of the mode machine, which leaves the LCD on (`Ppu.enabledTick_lcdEnabled`). -/
theorem lcdRegisters : Obligations.LcdRegisters := by
  refine ⟨fun s v => ?_, fun s v => ?_, fun s a v ha => memRead_memWrite_plainRegister s v ha, fun s v => ?_,
    fun p v => ?_, fun s v hc => ?_, fun s v hv => ?_, fun s v hv => ?_, fun e p hl hd => ?_, fun e p hl hd hd' => ?_,
    fun e p hl hd => ?_⟩
  · rw [memRead_register s (by decide), memWrite_register s (by decide)]
    exact ⟨rfl, rfl, s.ppu.readStat_eq⟩
  · rw [memRead_register s (by decide), memRead_register s (by decide), memWrite_register s (by decide)]
    exact ⟨rfl, rfl, rfl⟩
  · iterate 8 rw [memWrite_register s (by decide)]
    exact ⟨rfl, rfl, rfl, rfl, rfl, rfl, rfl, rfl⟩
  · exact ⟨rfl, rfl, rfl, fun b hb => nth_eq_of_getElem? hb⟩
  · iterate 4 rw [memWrite_cgbRegister s hc (by decide)]
    iterate 4 rw [memRead_cgbRegister s hc (by decide)]
    exact ⟨rfl, rfl, rfl, rfl, rfl, rfl, rfl, rfl⟩
  · rw [memWrite_register s (by decide)]
    exact ⟨Ppu.writeLcdc_off s.cfg s.ppu hv, congrArg (· ++ s.host.calls) (deviceCalls_lcdOff s hv)⟩
  · rw [memWrite_register s (by decide)]
    exact if_pos hv
  · rw [Ppu.tick_disabled hl hd]
    exact ⟨rfl, rfl, rfl, rfl⟩
  · rw [Ppu.tick_delayed hl hd hd']
    exact ⟨rfl, rfl, rfl⟩
  · obtain ⟨hon, pixel, hcalls⟩ :=
      Ppu.enabledTick_lcdEnabled e { p with lcdEnabledDelay := 0, lcdEnabled := true } [.enableLcd]
    rw [Ppu.tick_delayEnds hl hd, hon, hcalls]
    exact ⟨rfl, List.mem_append_right _ (List.mem_singleton_self _)⟩

end Sys2Proof.Machine

/-! ## The DMA engines: the statements of the family 49_dma_apu -/

namespace Sys2Proof.Machine

/-! ### OAM DMA (49_dma_apu R462, R463) -/

/-- Bytes stored at consecutive keys read back, each at its own. -/
theorem Mem.read_writeAll_same {m : List Host.Cell} {vs : List Byte} {v : Byte} {j : Nat} (a : Nat)
    (hwf : Mem.wf m = true) (h : vs[j]? = some v) : Mem.read (Mem.writeAll m a vs) (a + j) = v := by
  induction vs generalizing m a j with
  | nil => cases h
  | cons w vs ih =>
    cases j with
    | zero =>
      rw [Mem.writeAll, Mem.read_writeAll_other _ _ _ _ (by omega), Nat.add_zero, Mem.read_write_same a w hwf]
      exact Option.some.inj h
    | succ j =>
      rw [Mem.writeAll, show a + (j + 1) = a + 1 + j by omega]
      exact ih (a + 1) (Mem.wf_write a w hwf) h

section
variable {s : State}

theorem dmaTick_copies (h : s.dma.transferInProgress = true) (hl : s.dmaLimit ≤ s.dma.dmaTicks + 1) : dmaTick s =
    { s with dma := { s.dma with transferInProgress := false, restarted := false, dmaTicks := 0 }
             mem := Mem.writeAll s.mem 0xFE00 (dmaBytes s s.dma.source) } := by
  have ht : s.dma.tick s.dmaLimit =
      ({ s.dma with transferInProgress := false, restarted := false, dmaTicks := 0 }, true) := by
    rw [Dma.tick, if_pos h, if_pos hl]
  simp only [dmaTick, ht, if_true]

theorem dmaTick_counts (h : s.dma.transferInProgress = true) (hl : s.dma.dmaTicks + 1 < s.dmaLimit) :
    dmaTick s = { s with dma := { s.dma with dmaTicks := s.dma.dmaTicks + 1 } } := by
  have ht : s.dma.tick s.dmaLimit = ({ s.dma with dmaTicks := s.dma.dmaTicks + 1 }, false) := by
    rw [Dma.tick, if_pos h, if_neg (Nat.not_le_of_lt hl)]
  rw [dmaTick, ht]
  rfl

theorem dmaTick_idle (h : s.dma.transferInProgress = false) : dmaTick s = s := by
  have ht : s.dma.tick s.dmaLimit = (s.dma, false) := by rw [Dma.tick, h, if_neg Bool.false_ne_true]
  rw [dmaTick, ht]
  rfl

theorem getElem?_dmaBytes (source : Word) {j : Nat} (h : j < 160) :
    (dmaBytes s source)[j]? = some (dmaRead s (source + BitVec.ofNat 16 j)) := by
  simp [dmaBytes, h]

theorem length_dmaBytes (source : Word) : (dmaBytes s source).length = 160 := by simp [dmaBytes]

theorem dmaLimit_eq : s.dmaLimit = s.cfg.dmaTicks / (if s.spd.speed = .normal then 1 else 2) := by
  rw [State.dmaLimit]
  cases s.spd.speed <;> rfl

end

/-- Settles O54: the tick that reaches the limit stores the 160 bytes read before it (`dmaTick_copies`). -/
theorem oamDmaCopies : Obligations.OamDmaCopies := by
  refine ⟨fun s h hl => ?_, fun s h hl => dmaTick_counts h hl, fun s h => dmaTick_idle h, fun s a => ?_,
    fun s => dmaLimit_eq, fun c => rfl⟩
  · rw [dmaTick_copies h hl]
    dsimp only
    refine ⟨rfl, rfl, rfl, fun hwf j hj => ?_, fun k hk => ?_⟩
    · exact Mem.read_writeAll_same _ hwf (getElem?_dmaBytes _ hj)
    · exact Mem.read_writeAll_other _ _ _ _ (by rw [length_dmaBytes]; omega)
  · rw [dmaRead]

/-! ### The start and the end of an HDMA block (49_dma_apu R470 to R473) -/

namespace Hdma

theorem start_eq (h : Hdma) (v : Byte) : h.start v =
    { h with hblankTransfer := v.getLsbD 7, length := v.setWidth 7, inProgress := true
             src := (h.hdma1 ++ h.hdma2) &&& 0xFFF0
             dst := 0x8000 ||| (((h.hdma3 ++ h.hdma4) &&& 0x1FFF) &&& 0xFFF0) } := by
  have hsrc : joinBytes h.hdma1 (h.hdma2 &&& 0xF0) = (h.hdma1 ++ h.hdma2) &&& 0xFFF0 := by
    have hmask : (0xFFF0 : Word) = (0xFF : Byte) ++ (0xF0 : Byte) := rfl
    have hall : h.hdma1 &&& 0xFF = h.hdma1 := BitVec.and_allOnes
    rw [hmask, BitVec.and_append, hall, joinBytes]
  have hdst : (joinBytes (h.hdma3 &&& 0x1F) (h.hdma4 &&& 0xF0) &&& 0x1FFF) ||| 0x8000 =
      0x8000 ||| (((h.hdma3 ++ h.hdma4) &&& 0x1FFF) &&& 0xFFF0) := by
    have hmask : (0x1F : Byte) ++ (0xF0 : Byte) &&& (0x1FFF : Word) = (0x1FFF : Word) &&& 0xFFF0 := rfl
    rw [joinBytes, ← BitVec.and_append, BitVec.and_assoc, hmask, ← BitVec.and_assoc, BitVec.or_comm]
  rw [start, hsrc, hdst]
  rfl

theorem write_hdma5_start (h : Hdma) {v : Byte} (hv : h.inProgress = false ∨ v.getLsbD 7 = true) :
    h.write 0xFF55 v = h.start v := by
  have hcond : (h.inProgress && !bitAt v 7) = false := by
    rcases hv with hv | hv
    · rw [hv, Bool.false_and]
    · rw [bitAt, hv, Bool.not_true, Bool.and_false]
  show (if (h.inProgress && !bitAt v 7) = true then _ else _) = _
  rw [hcond, if_neg Bool.false_ne_true]

theorem write_hdma5_stop (h : Hdma) {v : Byte} (hp : h.inProgress = true) (hv : v.getLsbD 7 = false) :
    h.write 0xFF55 v = { h with inProgress := false } := by
  show (if (h.inProgress && !bitAt v 7) = true then _ else _) = _
  rw [hp, bitAt, hv]
  rfl

/-- The engine takes no address but its own five. -/
theorem write_other (h : Hdma) {n : Nat} (v : Byte) (hn : n < 0xFF51 ∨ 0xFF55 < n) : h.write n v = h := by
  simp (disch := omega) only [write, if_neg]

theorem blockDone_last (h : Hdma) (hl : h.length = 0) :
    h.blockDone.inProgress = false ∧ h.blockDone.read 0xFF55 = 0xFF := by
  have hlast : h.blockDone.inProgress = false := if_pos hl
  have hlength : h.blockDone.length = 0x7F := if_pos hl
  refine ⟨hlast, ?_⟩
  rw [read, if_pos rfl, hlast, hlength]
  rfl

end Hdma

/-! ### The copy of a block (49_dma_apu R473) -/

/-- An address outside VRAM shows no cell of VRAM, of either bank. -/
theorem region_outside_vram {s : State} {a : Word} {k : Nat} (ha : a.toNat < 0x8000 ∨ 0xA000 ≤ a.toNat)
    (h : region s a = .cell k) : k % 0x10000 < 0x8000 ∨ 0xA000 ≤ k % 0x10000 := by
  have hlt : a.toNat < 0x10000 := a.isLt
  have hw := s.wramKey_mod (n := a.toNat) hlt
  have he := s.wramKey_mod (n := a.toNat - 0x2000) (by omega)
  unfold region at h
  dsimp only at h
  repeat' split at h
  all_goals first
    | (injection h with h; omega)
    | cases h

/-- A read outside VRAM, after other bytes were stored in VRAM. -/
theorem mmuRead_setMem_vram {s : State} {m : List Host.Cell} {a : Word}
    (hm : ∀ k, k % 0x10000 < 0x8000 ∨ 0xA000 ≤ k % 0x10000 → Mem.read m k = Mem.read s.mem k)
    (ha : a.toNat < 0x8000 ∨ 0xA000 ≤ a.toNat) : mmuRead { s with mem := m } a = mmuRead s a := by
  have hr : region { s with mem := m } a = region s a := rfl
  rw [mmuRead, mmuRead, hr]
  cases hp : region s a with
  | cell k => exact hm k (region_outside_vram ha hp)
  | cart n =>
    simp only [readAt, Config.cartRead]
    split
    · split
      · exact hm n (by omega)
      · rfl
    · rfl
  | boot n => rfl
  | device n => rfl
  | void => rfl

theorem State.vramKey_injective (s : State) {n n' : Nat} (h : s.vramKey n = s.vramKey n') : n = n' := by
  unfold State.vramKey at h
  split at h <;> omega

/-- `t` is `s` with the bytes `j`, ..., `j + n - 1` of a block copied into VRAM, and no other byte of memory changed. -/
structure CopiedToVram (src dst : Word) (n j : Nat) (s t : State) : Prop where
  others : t = { s with mem := t.mem }
  copied : ∀ i, j ≤ i → i < j + n → Mem.read t.mem (s.vramKey (dst.toNat + i)) = mmuRead s (src + BitVec.ofNat 16 i)
  frame : ∀ k, (∀ i, j ≤ i → i < j + n → k ≠ s.vramKey (dst.toNat + i)) → Mem.read t.mem k = Mem.read s.mem k

theorem copiedToVram_copyBlock {src dst : Word} {n j : Nat} {s : State} (hwf : Mem.wf s.mem = true)
    (hlo : 0x8000 ≤ dst.toNat) (hhi : dst.toNat + (j + n) ≤ 0xA000)
    (hsrc : ∀ i, i < j + n → (src + BitVec.ofNat 16 i).toNat < 0x8000 ∨ 0xA000 ≤ (src + BitVec.ofNat 16 i).toNat) :
    CopiedToVram src dst n j s (copyBlock src dst n j s) := by
  induction n generalizing j s with
  | zero => exact ⟨rfl, fun i _ _ => by omega, fun k _ => rfl⟩
  | succ n ih =>
    have hdst : (dst + BitVec.ofNat 16 j).toNat = dst.toNat + j := by
      rw [BitVec.toNat_add, BitVec.toNat_ofNat]
      omega
    have hkey : region s (dst + BitVec.ofNat 16 j) = .cell (s.vramKey (dst.toNat + j)) := by
      rw [region_vram s (by omega) (by omega), hdst]
    generalize hb : mmuRead s (src + BitVec.ofNat 16 j) = b
    have hwrite : mmuWrite s (dst + BitVec.ofNat 16 j) b =
        { s with mem := Mem.write s.mem (s.vramKey (dst.toNat + j)) b } := by
      rw [mmuWrite, hkey]
      rfl
    have hcell (k : Nat) (hk : k ≠ s.vramKey (dst.toNat + j)) :
        Mem.read (Mem.write s.mem (s.vramKey (dst.toNat + j)) b) k = Mem.read s.mem k := Mem.read_write_other b hk
    have hmod := s.vramKey_mod (n := dst.toNat + j) (by omega)
    have hread (i : Nat) (hi : i < j + (n + 1)) :
        mmuRead { s with mem := Mem.write s.mem (s.vramKey (dst.toNat + j)) b } (src + BitVec.ofNat 16 i) =
          mmuRead s (src + BitVec.ofNat 16 i) :=
      mmuRead_setMem_vram (fun k hk => hcell k (by rintro rfl; omega)) (hsrc i hi)
    obtain ⟨hothers, hcopied, hframe⟩ := ih (j := j + 1)
      (s := { s with mem := Mem.write s.mem (s.vramKey (dst.toNat + j)) b })
      (Mem.wf_write _ _ hwf) (by omega) (fun i hi => hsrc i (by omega))
    rw [copyBlock, hb, hwrite]
    refine ⟨hothers, fun i hji hi => ?_, fun k hk => ?_⟩
    · rcases Nat.eq_or_lt_of_le hji with rfl | hlt
      · rw [hframe _ fun i' hi' _ heq => by have := s.vramKey_injective heq; omega, hb]
        exact Mem.read_write_same _ b hwf
      · exact (hcopied i hlt (by omega)).trans (hread i hi)
    · rw [hframe k fun i' hi' hlt => hk i' (by omega) (by omega)]
      exact hcell k (hk j le_rfl (by omega))

section
variable {s : State}

theorem mmuRead_hdmaCount (a : Word) : mmuRead (hdmaCount s) a = mmuRead s a := by
  have hr : region (hdmaCount s) a = region s a := rfl
  rw [mmuRead, mmuRead, hr]
  cases region s a <;> rfl

theorem hdmaTick_block (h : s.cfg.hdmaBlockTicks ≤ s.hdma.tick + 1) :
    hdmaTick s = hdmaBlockDone (copyBlock s.hdma.src s.hdma.dst 16 0 (hdmaCount s)) := if_neg (Nat.not_lt_of_le h)

/-- Behind VRAM a block goes to the cartridge, and the flat ROM ignores it. -/
theorem copyBlock_flatRom {src dst : Word} {n j : Nat} (hflat : s.cfg.cartridge = .flatRom) (hlo : 0xA000 ≤ dst.toNat)
    (hhi : dst.toNat + (j + n) ≤ 0xC000) : copyBlock src dst n j s = s := by
  induction n generalizing j with
  | zero => rfl
  | succ n ih =>
    have hdst : (dst + BitVec.ofNat 16 j).toNat = dst.toNat + j := by
      rw [BitVec.toNat_add, BitVec.toNat_ofNat]
      omega
    have hcart : region s (dst + BitVec.ofNat 16 j) = .cart (dst + BitVec.ofNat 16 j).toNat := by
      rw [← place_ungated s (by omega), place_cartRam s (by omega) (by omega)]
    have hwrite (v : Byte) : mmuWrite s (dst + BitVec.ofNat 16 j) v = s := by
      rw [mmuWrite, hcart]
      exact writeCart_flat s v _ hflat
    rw [copyBlock, hwrite]
    exact ih (by omega)

/-- What a block copied into VRAM leaves. -/
theorem hdmaTick_vram (hwf : Mem.wf s.mem = true) (ht : s.cfg.hdmaBlockTicks ≤ s.hdma.tick + 1)
    (hlo : 0x8000 ≤ s.hdma.dst.toNat) (hhi : s.hdma.dst.toNat + 16 ≤ 0xA000)
    (hsrc : ∀ i, i < 16 → (s.hdma.src + BitVec.ofNat 16 i).toNat < 0x8000 ∨ 0xA000 ≤ (s.hdma.src + BitVec.ofNat 16 i).toNat) :
    ∃ m, hdmaTick s = { s with mem := m, hdma := s.hdma.blockDone } ∧
      CopiedToVram s.hdma.src s.hdma.dst 16 0 s { s with mem := m } := by
  obtain ⟨hothers, hcopied, hframe⟩ := copiedToVram_copyBlock (s := hdmaCount s) (j := 0) (n := 16) hwf hlo (by omega)
    (fun i hi => hsrc i (by omega))
  rw [hdmaTick_block ht]
  generalize copyBlock s.hdma.src s.hdma.dst 16 0 (hdmaCount s) = t at *
  refine ⟨t.mem, by rw [hothers]; rfl, rfl, fun i hj hi => ?_, hframe⟩
  rw [← mmuRead_hdmaCount]
  exact hcopied i hj hi

end

/-! ### HDMA on a DMG (49_dma_apu R470) -/

/-- A device register stands at its own address, and is one of the variant's. -/
theorem place_device_cases {s : State} {a : Word} {n : Nat} (h : place s a = .device n) :
    n = a.toNat ∧ (mapped s.cfg.cgb n = true ∨ n = 0xFFFF) := by
  have hlt : a.toNat < 0x10000 := a.isLt
  unfold place at h
  split at h
  · cases h
  unfold region at h
  dsimp only at h
  repeat' split at h
  all_goals first
    | (injection h with h; subst h; exact ⟨by omega, by first | exact .inl ‹_› | exact .inr rfl⟩)
    | cases h

/-- What a write of the CPU can do to the HDMA engine: nothing, or on a CGB what its own register does. -/
theorem memWrite_hdma (s : State) (a : Word) (v : Byte) : (memWrite s a v).hdma = s.hdma ∨
    (s.cfg.cgb = true ∧ (memWrite s a v).hdma = s.hdma.write a.toNat v) := by
  cases hp : place s a with
  | device n =>
    obtain ⟨rfl, hmapped⟩ := place_device_cases hp
    rw [memWrite_device v hp, writeDevice_hdma]
    by_cases hn : a.toNat < 0xFF51 ∨ 0xFF55 < a.toNat
    · exact .inl (s.hdma.write_other v hn)
    · refine .inr ⟨?_, rfl⟩
      have hm := hmapped.resolve_right (by omega)
      by_contra hc
      rw [mapped_eq_false (by rw [Bool.not_eq_true] at hc; simp only [hc, true_and]; omega)] at hm
      cases hm
  | cell k => rw [memWrite_cell v hp]; exact .inl rfl
  | cart n => rw [memWrite_cart v (.inl hp)]; exact .inl rfl
  | boot n => rw [memWrite_cart v (.inr hp)]; exact .inl rfl
  | void => rw [memWrite_void v hp]; exact .inl rfl

/-- Settles O55: the registers by the engine's own rules, the copy by its induction over the sixteen bytes
(`hdmaTick_vram`). -/
theorem hdmaTransfers : Obligations.HdmaTransfers := by
  refine ⟨fun h v hv => (h.write_hdma5_start hv).trans (h.start_eq v), fun h v hp hv => h.write_hdma5_stop hp hv,
    fun h => rfl, fun h hl hp => ?_, fun h hl => ?_, fun h => rfl, fun s ht => if_pos ht,
    fun s hwf ht hlo hhi hsrc => ?_, fun s ht hlo hhi hflat => ?_, fun c => rfl, fun s hc => ⟨?_, fun a v => ?_⟩⟩
  · obtain ⟨hlast, hread⟩ := h.blockDone_last hl
    exact ⟨hlast, hread, rfl, rfl, rfl⟩
  · exact ⟨if_neg hl, if_neg hl, rfl, rfl, rfl⟩
  · obtain ⟨m, htick, -, hcopied, hframe⟩ := hdmaTick_vram hwf ht hlo hhi hsrc
    rw [htick]
    refine ⟨rfl, fun j hj => ?_, fun k hk => hframe k fun i _ hi => hk i (by omega), rfl⟩
    have hdst : (s.hdma.dst + BitVec.ofNat 16 j).toNat = s.hdma.dst.toNat + j := by
      rw [BitVec.toNat_add, BitVec.toNat_ofNat]
      omega
    rw [mmuRead, region_vram _ (by omega) (by omega), hdst]
    exact hcopied j (Nat.zero_le j) (by omega)
  · rw [hdmaTick_block ht, copyBlock_flatRom (s := hdmaCount s) hflat hlo hhi]
    rfl
  · rw [State.hdmaActive, hc, Bool.false_and]
  · refine (memWrite_hdma s a v).resolve_right fun h => ?_
    rw [hc] at h
    exact absurd h.1 Bool.false_ne_true

end Sys2Proof.Machine

/-! ## The sound unit: the statements of the family 49_dma_apu -/

namespace Sys2Proof.Machine

/-! ### Fields of a register -/

theorem field_eq {w : Nat} (v : BitVec w) (lo n : Nat) : field v lo n = v.toNat / 2 ^ lo % 2 ^ n := by
  rw [field, BitVec.extractLsb'_toNat, Nat.shiftRight_eq_div_pow]

theorem getElem?_eq_some_nth {α : Type} (d : α) {xs : List α} {n : Nat} (h : n < xs.length) : xs[n]? = some (nth d xs n) := by
  obtain ⟨x, hx⟩ : ∃ x, xs[n]? = some x := ⟨_, List.getElem?_eq_getElem h⟩
  rw [hx, nth_eq_of_getElem? hx]

/-! ### Power (49_dma_apu R484) -/

/-- NR52 is taken by the sound unit alone, which tells the host. -/
theorem writeDevice_nr52 (s : State) (v : Byte) : writeDevice s 0xFF26 v =
    { s with apu := s.apu.writeNr52 s.cfg.cgb v, host := s.host.push (deviceCalls s 0xFF26 v) } := rfl

theorem deviceCalls_nr52 (s : State) (v : Byte) : deviceCalls s 0xFF26 v =
    if v.getLsbD 7 then (if s.apu.enabled then [] else [.soundStart])
    else (if s.apu.enabled then [.soundStop] else []) := rfl

namespace Apu

section
variable (u : Apu) (cgb : Bool) (k n : Nat) (v : Byte)

theorem writeCh1_enabled : (u.writeCh1 k v).enabled = u.enabled := by unfold writeCh1; split <;> rfl
theorem writeCh2_enabled : (u.writeCh2 k v).enabled = u.enabled := by unfold writeCh2; split <;> rfl
theorem writeCh3_enabled : (u.writeCh3 cgb k v).enabled = u.enabled := by unfold writeCh3; dsimp only; split <;> rfl
theorem writeCh4_enabled : (u.writeCh4 k v).enabled = u.enabled := by unfold writeCh4; split <;> rfl

/-- No register but NR52 switches the unit. -/
theorem writeRegister_enabled : (u.writeRegister cgb n v).enabled = u.enabled := by
  simp only [writeRegister, apply_ite Apu.enabled, writeCh1_enabled, writeCh2_enabled, writeCh3_enabled,
    writeCh4_enabled, ite_self]

theorem startAll_enabled : (u.startAll cgb).enabled = u.enabled := rfl

theorem powerOn_enabled : (u.powerOn cgb).enabled = true := by
  rw [powerOn, startAll_enabled]
  exact List.foldlRecOn (motive := fun w : Apu => w.enabled = true) _ _ rfl
    fun w hw _ _ => (writeRegister_enabled w cgb _ _).trans hw

/-- Off, with every channel off, NR52 shows its three bits that always read 1. -/
theorem readNr52_powerOff : u.powerOff.readNr52 = 0x70 := by
  simp only [readNr52, powerOff, Channel.disable, Channel.isEnabled, Bool.false_and]
  rfl

end

end Apu

/-! ### The register map (49_dma_apu R481, R485 to R487) -/

theorem Pulse.nr4_writeNr4 (p : Pulse) (v : Byte) : (p.writeNr4 v).ch.nr4 = v := by
  unfold Pulse.writeNr4
  dsimp only
  split <;> rfl

theorem Wave.nr4_writeNr4 (c : Wave) (cgb : Bool) (v : Byte) : (c.writeNr4 cgb v).ch.nr4 = v := by
  unfold Wave.writeNr4
  dsimp only
  split <;> rfl

theorem Noise.nr4_writeNr4 (c : Noise) (v : Byte) : (c.writeNr4 v).ch.nr4 = v := by
  unfold Noise.writeNr4
  dsimp only
  split <;> rfl

namespace Apu

section
variable (u : Apu) (cgb : Bool) (v : Byte)

theorem stored_writeCh1 {k : Nat} (hk : k < 5) : channelStored (u.writeCh1 k v).ch1.ch k = v := by
  match k, hk with
  | 0, _ | 1, _ | 2, _ | 3, _ => rfl
  | 4, _ => exact Pulse.nr4_writeNr4 u.ch1 v

theorem stored_writeCh2 {k : Nat} (hk : k < 5) : channelStored (u.writeCh2 k v).ch2.ch k = v := by
  match k, hk with
  | 0, _ | 1, _ | 2, _ | 3, _ => rfl
  | 4, _ => exact Pulse.nr4_writeNr4 u.ch2 v

theorem stored_writeCh3 {k : Nat} (hk : k < 5) : channelStored (u.writeCh3 cgb k v).ch3.ch k = v := by
  match k, hk with
  | 0, _ | 1, _ | 2, _ | 3, _ => rfl
  | 4, _ => exact Wave.nr4_writeNr4 u.ch3 cgb v

theorem stored_writeCh4 {k : Nat} (hk : k < 5) : channelStored (u.writeCh4 k v).ch4.ch k = v := by
  match k, hk with
  | 0, _ | 1, _ | 2, _ | 3, _ => rfl
  | 4, _ => exact Noise.nr4_writeNr4 u.ch4 v

/-- A register of a channel, or one of the mixer's two, holds what was written. -/
theorem stored_writeRegister {n : Nat} (hlo : 0xFF10 ≤ n) (hhi : n ≤ 0xFF25) :
    (u.writeRegister cgb n v).stored n = v := by
  have h0 : ¬ n < 0xFF10 := by omega
  unfold writeRegister stored
  by_cases h1 : n < 0xFF15
  · simp only [h0, h1, if_true, if_false]
    exact stored_writeCh1 u v (by omega)
  by_cases h2 : n < 0xFF1A
  · simp only [h0, h1, h2, if_true, if_false]
    exact stored_writeCh2 u v (by omega)
  by_cases h3 : n < 0xFF1F
  · simp only [h0, h1, h2, h3, if_true, if_false]
    exact stored_writeCh3 u cgb v (by omega)
  by_cases h4 : n < 0xFF24
  · simp only [h0, h1, h2, h3, h4, if_true, if_false]
    exact stored_writeCh4 u v (by omega)
  obtain rfl | rfl : n = 0xFF24 ∨ n = 0xFF25 := by omega
  · rfl
  · rfl

end

/-- What a write to NR52 or to wave RAM does not reach is a register's. -/
theorem write_register (u : Apu) (cgb : Bool) (v : Byte) {n : Nat} (h : n ≤ 0xFF25) :
    u.write cgb n v = u.writeRegister cgb n v := by
  rw [write, if_neg (by omega), if_neg (by omega)]

theorem read_register (u : Apu) (cgb : Bool) {n : Nat} (h : n ≤ 0xFF25) : u.read cgb n = u.stored n ||| readMask n := by
  rw [read, if_neg (by omega), if_neg (by omega)]

end Apu

theorem readDevice_apu (s : State) {n : Nat} (hlo : 0xFF10 ≤ n) (hhi : n < 0xFF40) :
    readDevice s n = s.apu.read s.cfg.cgb n := by
  simp (disch := omega) only [readDevice, if_neg, if_pos]

/-- The registers of the sound unit but NR52, each with the bits that read 1. -/
def soundRegisters : List (Nat × Byte) :=
  [(0xFF10, 0x80), (0xFF11, 0x3F), (0xFF12, 0x00), (0xFF13, 0xFF), (0xFF14, 0xBF), (0xFF15, 0xFF), (0xFF16, 0x3F)] ++
    [(0xFF17, 0x00), (0xFF18, 0xFF), (0xFF19, 0xBF), (0xFF1A, 0x7F), (0xFF1B, 0xFF), (0xFF1C, 0x9F), (0xFF1D, 0xFF)] ++
    [(0xFF1E, 0xBF), (0xFF1F, 0xFF), (0xFF20, 0xFF), (0xFF21, 0x00), (0xFF22, 0x00), (0xFF23, 0xBF), (0xFF24, 0x00)] ++
    [(0xFF25, 0x00)]

theorem soundRegisters_spec {w : Nat × Byte} (h : w ∈ soundRegisters) :
    0xFF10 ≤ w.1 ∧ w.1 ≤ 0xFF25 ∧ isRegister (BitVec.ofNat 16 w.1) = true ∧ Apu.readMask w.1 = w.2 := by
  have hall : soundRegisters.all (fun w => decide (0xFF10 ≤ w.1 ∧ w.1 ≤ 0xFF25 ∧
    isRegister (BitVec.ofNat 16 w.1) = true ∧ Apu.readMask w.1 = w.2)) = true := by decide
  exact of_decide_eq_true (List.all_eq_true.1 hall w h)

theorem memRead_memWrite_soundRegister (s : State) (v : Byte) {w : Nat × Byte} (h : w ∈ soundRegisters) :
    memRead (memWrite s (BitVec.ofNat 16 w.1) v) (BitVec.ofNat 16 w.1) = v ||| w.2 := by
  obtain ⟨hlo, hhi, hreg, hmask⟩ := soundRegisters_spec h
  have hn : (BitVec.ofNat 16 w.1).toNat = w.1 := by
    rw [BitVec.toNat_ofNat]
    omega
  rw [memRead_register _ hreg, memWrite_register s hreg, hn, readDevice_apu _ hlo (by omega), writeDevice_apu,
    Apu.write_register _ _ v hhi, Apu.read_register _ _ hhi, Apu.stored_writeRegister _ _ v hlo hhi, hmask]

namespace Channel

/-- The DAC of channels 1, 2 and 4 is on where the upper five bits of NRx2 are not all 0 (R487). -/
theorem writeNr2_eq (c : Channel) (v : Byte) : c.writeNr2 v =
    { c with nr2 := v, dacEnabled := decide (8 ≤ v.toNat)
             channelEnabled := c.channelEnabled && decide (8 ≤ v.toNat) } := by
  have hv : v.toNat < 2 ^ 8 := v.isLt
  have hdac : decide (field v 3 5 ≠ 0) = decide (8 ≤ v.toNat) := by
    rw [field_eq]
    exact decide_eq_decide.2 (by omega)
  rw [writeNr2, hdac]

theorem writeLength6_eq (c : Channel) (v : Byte) : c.writeLength6 v =
    { c with nr1 := v, len := { c.len with length := 64 - v.toNat % 64 } } := by
  have hfield : field v 0 6 = v.toNat % 64 := by
    rw [field_eq]
    omega
  rw [writeLength6, hfield, LengthCounter.setLength, if_neg (by omega)]

theorem frequency_eq (c : Channel) : c.frequency = 2048 - (c.nr3.toNat + 256 * (c.nr4.toNat % 8)) := by
  have hfield : field c.nr4 0 3 = c.nr4.toNat % 8 := by
    rw [field_eq]
    omega
  rw [frequency, hfield]

end Channel

/-! ### Triggers (49_dma_apu R485, R495, R500, R506, R515) -/

section
variable {v : Byte} (h : v.getLsbD 7 = true)
include h

theorem Pulse.writeNr4_trigger (p : Pulse) : p.writeNr4 v =
    { p with ch := p.ch.writeNr4 v, di := 0, freqDivider := 1, env := p.env.trigger } := if_pos h

theorem Sweep.writeNr14_trigger (w : Sweep) : w.writeNr14 v = ({ w with nr14 := v } : Sweep).trigger := if_pos h

theorem Noise.writeNr4_trigger (c : Noise) : c.writeNr4 v =
    { c with ch := c.ch.writeNr4 v, lfsr := 0x7FFF, env := c.env.trigger } := if_pos h

theorem Wave.writeNr4_trigger (c : Wave) (cgb : Bool) : c.writeNr4 cgb v =
    { c with ch := c.ch.writeNr4 v, wi := 0, triggered := !cgb
             freqDivider := if cgb then (((2048 - (c.ch.nr3.toNat + 256 * (v.toNat % 8))) * 2 : Nat) : Int) else 6 } := by
  have htrigger : c.writeNr4 cgb v = ({ c with ch := c.ch.writeNr4 v } : Wave).trigger cgb := if_pos h
  rw [htrigger, Wave.trigger, Channel.frequency_eq]
  rfl

end

/-! ### The length counter (49_dma_apu R486) -/

namespace LengthCounter

variable (l : LengthCounter)

theorem tick_wraps (h : l.li + 1 = 16384) :
    l.tick = { l with li := 0, length := if l.lengthEnabled then l.length - 1 else l.length } := by
  have hlength : (if l.lengthEnabled && decide (l.length > 0) then l.length - 1 else l.length) =
      if l.lengthEnabled then l.length - 1 else l.length := by
    cases l.lengthEnabled with
    | false => rfl
    | true =>
      simp only [Bool.true_and, decide_eq_true_eq, if_true]
      split <;> omega
  rw [tick, lenDiv, if_pos h, hlength]

theorem tick_counts (h : l.li + 1 ≠ 16384) : l.tick = { l with li := l.li + 1 } := if_neg h

theorem setLength_length {n : Nat} (h : n ≠ 0) : (l.setLength n).length = n := if_neg h

theorem setLength_full : (l.setLength l.full).length = l.full := ite_self _

section
variable {l} {v : Byte}

/-- A counter that is enabled already: only a trigger at 0 changes it. -/
theorem writeNr4_of_enabled (he : l.lengthEnabled = true) : (l.writeNr4 v).length =
    if l.length = 0 ∧ v.getLsbD 7 = true then
      if v.getLsbD 6 = true ∧ l.li < 8192 then (l.setLength (l.full - 1)).length else l.full
    else l.length := by
  simp only [writeNr4, he, if_true, Bool.and_eq_true, decide_eq_true_eq, bitAt]
  split
  · rw [show lenDiv / 2 = 8192 from rfl]
    split
    · rfl
    · exact l.setLength_full
  · rfl

/-- Enabling in the first half of the period steps the counter, and a trigger that leaves it at 0 reloads it. -/
theorem writeNr4_enabling_early (he : l.lengthEnabled = false) (hen : v.getLsbD 6 = true) (hli : l.li < 8192) :
    (l.writeNr4 v).length =
      if l.length ≤ 1 ∧ v.getLsbD 7 = true then (l.setLength (l.full - 1)).length else l.length - 1 := by
  have hhalf : decide (l.li < lenDiv / 2) = true := decide_eq_true hli
  simp only [writeNr4, he, hen, hhalf, bitAt, Bool.false_eq_true, if_false, if_true, Bool.and_true, Bool.and_eq_true,
    decide_eq_true_eq]
  by_cases hpos : l.length > 0
  · simp only [hpos, if_true]
    by_cases hlast : l.length - 1 = 0 ∧ v.getLsbD 7 = true
    · rw [if_pos hlast, if_pos ⟨by omega, hlast.2⟩]
      rfl
    · rw [if_neg hlast, if_neg (fun h => hlast ⟨by omega, h.2⟩)]
  · simp only [hpos, if_false]
    by_cases hlast : l.length = 0 ∧ v.getLsbD 7 = true
    · rw [if_pos hlast, if_pos ⟨by omega, hlast.2⟩]
    · rw [if_neg hlast, if_neg (fun h => hlast ⟨by omega, h.2⟩)]
      omega

/-- Enabling in the second half changes nothing, not even with a trigger. -/
theorem writeNr4_enabling_late (he : l.lengthEnabled = false) (hen : v.getLsbD 6 = true) (hli : 8192 ≤ l.li) :
    (l.writeNr4 v).length = l.length := by
  have hhalf : decide (l.li < lenDiv / 2) = false := decide_eq_false (Nat.not_lt.2 hli)
  simp only [writeNr4, he, hen, hhalf, bitAt, Bool.false_eq_true, if_false, if_true, Bool.and_false]

theorem writeNr4_disabled (he : l.lengthEnabled = false) (hen : v.getLsbD 6 = false) : (l.writeNr4 v).length =
    if l.length = 0 ∧ v.getLsbD 7 = true then l.full else l.length := by
  simp only [writeNr4, he, hen, bitAt, Bool.false_eq_true, if_false, Bool.and_eq_true, decide_eq_true_eq]
  split
  · exact l.setLength_full
  · rfl

/-- Outside the enabling write of the first half the length changes by a trigger at 0 only. -/
theorem writeNr4_keeps (h : l.lengthEnabled = true ∨ v.getLsbD 6 = false ∨ 8192 ≤ l.li)
    (hlength : v.getLsbD 7 = false ∨ l.length ≠ 0) : (l.writeNr4 v).length = l.length := by
  have hreload : ¬ (l.length = 0 ∧ v.getLsbD 7 = true) := by
    rintro ⟨h0, h7⟩
    rcases hlength with hv | hv
    · rw [h7] at hv
      cases hv
    · exact hv h0
  cases he : l.lengthEnabled with
  | true => rw [writeNr4_of_enabled he, if_neg hreload]
  | false =>
    cases hen : v.getLsbD 6 with
    | false => rw [writeNr4_disabled he hen, if_neg hreload]
    | true =>
      rw [he, hen] at h
      exact writeNr4_enabling_late he hen ((h.resolve_left nofun).resolve_left nofun)

/-- A trigger at 0 reloads, one short in the first half if the write enables; an enabling one in the second half does not
reload a counter that was disabled. -/
theorem writeNr4_reload (h7 : v.getLsbD 7 = true) (h0 : l.length = 0) (hfull : 1 < l.full) : (l.writeNr4 v).length =
    if v.getLsbD 6 = true ∧ l.li < 8192 then l.full - 1
    else if l.lengthEnabled = false ∧ v.getLsbD 6 = true then 0 else l.full := by
  have hshort : (l.setLength (l.full - 1)).length = l.full - 1 := l.setLength_length (by omega)
  cases he : l.lengthEnabled with
  | true =>
    rw [writeNr4_of_enabled he, if_pos ⟨h0, h7⟩, hshort]
    exact if_congr Iff.rfl rfl (if_neg (fun h => nomatch h.1)).symm
  | false =>
    cases hen : v.getLsbD 6 with
    | false => rw [writeNr4_disabled he hen, if_pos ⟨h0, h7⟩, if_neg (fun h => nomatch h.1),
        if_neg (fun h => nomatch h.2)]
    | true =>
      by_cases hli : l.li < 8192
      · rw [writeNr4_enabling_early he hen hli, if_pos ⟨by omega, h7⟩, hshort, if_pos ⟨rfl, hli⟩]
      · rw [writeNr4_enabling_late he hen (by omega), if_neg (fun h => hli h.2), if_pos ⟨rfl, rfl⟩, h0]

end

end LengthCounter

/-! ### The envelope (49_dma_apu R487) -/

namespace Envelope

variable (e : Envelope)

theorem tick_eq : e.tick =
    if e.finished = true then e
    else if (e.volume = 0 ∧ e.up = false) ∨ (e.volume = 15 ∧ e.up = true) then { e with finished := true }
    else if e.ei + 1 = e.period * 65536 then
      { e with ei := 0, volume := if e.up then e.volume + 1 else e.volume - 1 }
    else { e with ei := e.ei + 1 } := by
  simp only [tick, Bool.or_eq_true, Bool.and_eq_true, decide_eq_true_eq, Bool.not_eq_true']

end Envelope

/-! ### The frequency sweep (49_dma_apu R488) -/

namespace Sweep

variable (w : Sweep)

theorem frequency_eq : w.frequency = w.nr13.toNat + 256 * (w.nr14.toNat % 8) := by
  have hfield : field w.nr14 0 3 = w.nr14.toNat % 8 := by
    rw [field_eq]
    omega
  rw [frequency, hfield]

/-- Moving up: the frequency plus its shifted self, and an overflow past 0x7FF. -/
theorem calculate_up (h : w.negate = false) : w.calculate =
    (w.shadowFreq + w.shadowFreq / 2 ^ w.shift,
      { w with overflow := decide (2047 < w.shadowFreq + w.shadowFreq / 2 ^ w.shift) || w.overflow }) := by
  simp only [calculate, h, Nat.shiftRight_eq_div_pow, Bool.false_eq_true, if_false]
  by_cases hf : 2047 < w.shadowFreq + w.shadowFreq / 2 ^ w.shift
  · simp [hf]
  · simp [hf]

theorem trigger_of_no_shift (h : w.shift = 0) : w.trigger.overflow = false := by
  rw [trigger, if_neg (by omega)]

theorem trigger_up (h : 0 < w.shift) (hn : w.negate = false) :
    w.trigger.overflow = decide (2047 < w.frequency + w.frequency / 2 ^ w.shift) := by
  rw [trigger, if_pos h, calculate_up]
  · exact Bool.or_false _
  · exact hn

theorem writeNr10_leavingNegate {v : Byte} (h : w.negging = true) (hv : v.getLsbD 3 = false) :
    (w.writeNr10 v).overflow = true := by
  simp only [writeNr10, h, bitAt, hv, Bool.not_false, Bool.and_true, if_true]

section
variable {w}

theorem tick_counts (h : w.si + 1 ≠ 32768) : w.tick = { w with si := w.si + 1 } := if_pos h

theorem tick_disabled (h : w.si + 1 = 32768) (hc : w.counterEnabled = false) : w.tick = { w with si := 0 } := by
  simp only [tick, sweepDiv, h, ne_eq, not_true_eq_false, if_false, hc, Bool.not_false, if_true]

theorem tick_enabled (h : w.si + 1 = 32768) (hc : w.counterEnabled = true) : w.tick =
    if w.timer = 1 then ({ w with si := 0, timer := w.timer - 1 } : Sweep).clock
    else { w with si := 0, timer := w.timer - 1 } := by
  simp only [tick, sweepDiv, h, ne_eq, not_true_eq_false, if_false, hc, Bool.not_true, Bool.false_eq_true]
  exact if_congr (by omega) rfl rfl

end

end Sweep

end Sys2Proof.Machine


namespace Sys2Proof.Machine

namespace LengthCounter

/-- A trigger that enables in the first half reloads a counter which that step leaves at 0. -/
theorem writeNr4_enabling_trigger {l : LengthCounter} {v : Byte} (he : l.lengthEnabled = false) (hen : v.getLsbD 6 = true)
    (hli : l.li < 8192) (h7 : v.getLsbD 7 = true) (hfull : 1 < l.full) :
    (l.writeNr4 v).length = if l.length ≤ 1 then l.full - 1 else l.length - 1 := by
  rw [writeNr4_enabling_early he hen hli, l.setLength_length (by omega)]
  exact if_congr (and_iff_left h7) rfl rfl

end LengthCounter

namespace Sweep

/-- The timer's end: the frequency moves up, and the next move is tried for an overflow. -/
theorem clock_up {w : Sweep} {f : Nat} (hperiod : 0 < w.sPeriod) (hshift : 0 < w.shift) (hnegate : w.negate = false)
    (hoverflow : w.overflow = false) (hf : f = w.shadowFreq + w.shadowFreq / 2 ^ w.shift) : w.clock =
    if 2047 < f then { w with timer := w.sPeriod, overflow := true }
    else { w with timer := w.sPeriod, shadowFreq := f, nr13 := BitVec.ofNat 8 f, nr14 := BitVec.ofNat 8 (f / 256 % 8)
                  overflow := decide (2047 < f + f / 2 ^ w.shift) } := by
  have hp : w.period = w.sPeriod := if_neg (by omega)
  rw [clock, if_neg (by omega), calculate_up { w with timer := w.period } hnegate, hp]
  dsimp only
  rw [← hf, hoverflow, Bool.or_false, decide_eq_true (show w.shift ≠ 0 by omega), Bool.and_true]
  by_cases hbig : 2047 < f
  · rw [decide_eq_true hbig, if_pos hbig]
    rfl
  · rw [decide_eq_false hbig, if_neg hbig, Bool.not_false, if_pos rfl, calculate_up]
    · dsimp only
      rw [Bool.or_false]
    · exact hnegate

/-- What a sweep tick at the timer's end leaves. -/
theorem tick_up {w : Sweep} {f : Nat} (hsi : w.si + 1 = 32768) (hc : w.counterEnabled = true) (ht : w.timer = 1)
    (hperiod : 0 < w.sPeriod) (hshift : 0 < w.shift) (hnegate : w.negate = false) (hoverflow : w.overflow = false)
    (hf : f = w.shadowFreq + w.shadowFreq / 2 ^ w.shift) : w.tick.timer = w.sPeriod ∧
      (2047 < f → w.tick.overflow = true ∧ w.tick.shadowFreq = w.shadowFreq) ∧
      (f ≤ 2047 → w.tick.shadowFreq = f ∧ w.tick.nr13.toNat = f % 256 ∧ w.tick.nr14.toNat = f / 256 ∧
        w.tick.overflow = decide (2047 < f + f / 2 ^ w.shift)) := by
  have htick := (tick_enabled hsi hc).trans ((if_pos ht).trans (clock_up hperiod hshift hnegate hoverflow hf))
  by_cases hbig : 2047 < f
  · rw [if_pos hbig] at htick
    rw [htick]
    exact ⟨rfl, fun _ => ⟨rfl, rfl⟩, fun h => absurd hbig (by omega)⟩
  · rw [if_neg hbig] at htick
    rw [htick]
    refine ⟨rfl, fun h => absurd h hbig, fun _ => ⟨rfl, ?_, ?_, rfl⟩⟩
    · exact BitVec.toNat_ofNat _ _
    · rw [BitVec.toNat_ofNat]
      omega

end Sweep

/-! ### The generators (49_dma_apu R495, R496, R500, R506, R515 to R517) -/

/-- An exhausted divider of any generator. -/
theorem sub_one_eq_zero_iff (n : Int) : n - 1 = 0 ↔ n = 1 := by omega

namespace Pulse

variable {p : Pulse} {freq : Nat}

theorem generate_counts (h : p.freqDivider ≠ 1) : p.generate freq =
    ({ p with freqDivider := p.freqDivider - 1 }, p.lastOutput * p.env.output) := by
  rw [generate, if_neg (fun hz => h ((sub_one_eq_zero_iff _).1 hz))]

/-- The divider's end: the next bit of the duty pattern. -/
theorem generate_samples (h : p.freqDivider = 1) : p.generate freq =
    ({ p with freqDivider := (freq * 4 : Nat), lastOutput := dutyBit (p.ch.nr1.toNat / 64) p.di, di := (p.di + 1) % 8 },
      dutyBit (p.ch.nr1.toNat / 64) p.di * p.env.output) := by
  have hv : p.ch.nr1.toNat < 2 ^ 8 := p.ch.nr1.isLt
  have hduty : field p.ch.nr1 6 2 = p.ch.nr1.toNat / 64 := by
    rw [field_eq]
    omega
  rw [generate, if_pos ((sub_one_eq_zero_iff _).2 h), hduty]

variable (p)

theorem tick2_eq :
    let q := { p with env := p.env.tick, ch := p.ch.updateLength }
    let sample := dutyBit (p.ch.nr1.toNat / 64) p.di
    (q.ch.isEnabled = false → p.tick2 = (q, 0)) ∧
    (q.ch.isEnabled = true → p.freqDivider ≠ 1 →
      p.tick2 = ({ q with freqDivider := p.freqDivider - 1 }, p.lastOutput * p.env.tick.output)) ∧
    (q.ch.isEnabled = true → p.freqDivider = 1 →
      p.tick2 = ({ q with freqDivider := ((2048 - (p.ch.nr3.toNat + 256 * (p.ch.nr4.toNat % 8))) * 4 : Nat)
                          lastOutput := sample, di := (p.di + 1) % 8 }, sample * p.env.tick.output)) := by
  intro q sample
  have hon (h : q.ch.isEnabled = true) : p.tick2 = q.generate q.ch.frequency := if_pos h
  refine ⟨fun h => if_neg (by rw [h]; nofun), fun h hd => ?_, fun h hd => ?_⟩
  · rw [hon h, generate_counts (p := q) hd]
  · rw [hon h, generate_samples (p := q) hd, Channel.frequency_eq]
    rfl

variable (w : Sweep)

theorem tick1_eq :
    let v := w.tick
    let l := p.ch.updateLength
    let q := { p with env := p.env.tick, ch := { l with channelEnabled := l.channelEnabled && !v.overflow } }
    let sample := dutyBit (p.ch.nr1.toNat / 64) p.di
    (q.ch.isEnabled = false → p.tick1 w = (q, v, 0)) ∧
    (q.ch.isEnabled = true → p.freqDivider ≠ 1 →
      p.tick1 w = ({ q with freqDivider := p.freqDivider - 1 }, v, p.lastOutput * p.env.tick.output)) ∧
    (q.ch.isEnabled = true → p.freqDivider = 1 →
      p.tick1 w = ({ q with freqDivider := ((2048 - (v.nr13.toNat + 256 * (v.nr14.toNat % 8))) * 4 : Nat)
                            lastOutput := sample, di := (p.di + 1) % 8 }, v, sample * p.env.tick.output)) := by
  intro v l q sample
  have hon (h : q.ch.isEnabled = true) : p.tick1 w =
      ((q.generate (2048 - v.frequency)).1, v, (q.generate (2048 - v.frequency)).2) := if_pos h
  refine ⟨fun h => if_neg (by rw [h]; nofun), fun h hd => ?_, fun h hd => ?_⟩
  · rw [hon h, generate_counts (p := q) hd]
  · rw [hon h, generate_samples (p := q) hd, Sweep.frequency_eq]
    rfl

/-- An overflow of the sweep switches channel 1 off in the same tick. -/
theorem tick1_overflow (h : w.tick.overflow = true) : (p.tick1 w).1.ch.channelEnabled = false ∧ (p.tick1 w).2.2 = 0 := by
  have hoff := (tick1_eq p w).1
  simp only [h, Bool.not_true, Bool.and_false, Channel.isEnabled, Bool.false_and, forall_const] at hoff
  rw [hoff]
  exact ⟨rfl, rfl⟩

end Pulse

namespace Wave

variable (c : Wave) (ram : List Byte)

/-- The part of a tick of channel 3 after its enables are settled, as `Pulse.generate` is for the pulse channels. -/
def generate : Wave :=
  if c.freqDivider - 1 = 0 then
    let e := { c with freqDivider := (c.ch.frequency * 2 : Nat) }
    let r := if e.triggered then { e with lastOutput := field e.buffer 4 4, triggered := false } else e.entry ram
    { r with wi := (r.wi + 1) % 32 }
  else { c with freqDivider := c.freqDivider - 1 }

variable {c}

theorem generate_counts (h : c.freqDivider ≠ 1) : c.generate ram = { c with freqDivider := c.freqDivider - 1 } :=
  if_neg fun hz => h ((sub_one_eq_zero_iff _).1 hz)

/-- After a trigger on a DMG the first sample comes from the buffer. -/
theorem generate_triggered (h : c.freqDivider = 1) (ht : c.triggered = true) : c.generate ram =
    { c with freqDivider := (c.ch.frequency * 2 : Nat), lastOutput := c.buffer.toNat / 16, triggered := false
             wi := (c.wi + 1) % 32 } := by
  have hb : c.buffer.toNat < 2 ^ 8 := c.buffer.isLt
  have hhigh : field c.buffer 4 4 = c.buffer.toNat / 16 := by
    rw [field_eq]
    omega
  rw [generate, if_pos ((sub_one_eq_zero_iff _).2 h)]
  simp only [ht, if_true, hhigh]

/-- A wave RAM sample at the volume NR32 gives. -/
def sampleOf (c : Wave) (b : Byte) : Nat :=
  let n := if c.wi % 2 = 0 then b.toNat / 16 else b.toNat % 16
  match c.ch.nr2.toNat / 32 % 4 with
  | 0 => 0
  | 1 => n
  | 2 => n / 2
  | _ => n / 4

/-- `WaveEntry` on the byte that is there. -/
theorem entry_eq {b : Byte} (h : ram[c.wi / 2]? = some b) : c.entry ram =
    { c with ticksSinceRead := 0, lastRead := some (c.wi / 2), buffer := b, lastOutput := c.sampleOf b } := by
  have hb : b.toNat < 2 ^ 8 := b.isLt
  have hhigh : field b 4 4 = b.toNat / 16 := by
    rw [field_eq]
    omega
  have hlow : field b 0 4 = b.toNat % 16 := by
    rw [field_eq]
    omega
  have hvolume : field c.ch.nr2 5 2 = c.ch.nr2.toNat / 32 % 4 := field_eq _ _ _
  rw [entry, nth_eq_of_getElem? h, hhigh, hlow, hvolume]
  rfl

theorem generate_samples {b : Byte} (h : c.freqDivider = 1) (ht : c.triggered = false) (hb : ram[c.wi / 2]? = some b) :
    c.generate ram =
      { c with freqDivider := (c.ch.frequency * 2 : Nat), wi := (c.wi + 1) % 32, ticksSinceRead := 0
               lastRead := some (c.wi / 2), buffer := b, lastOutput := c.sampleOf b } := by
  rw [generate, if_pos ((sub_one_eq_zero_iff _).2 h)]
  simp only [ht, Bool.false_eq_true, if_false]
  rw [entry_eq]
  · rfl
  · exact hb

variable (c)

theorem tick_eq :
    let l := c.ch.updateLength
    let on := l.channelEnabled && l.dacEnabled && c.ch.nr0.getLsbD 7
    let d := { c with ticksSinceRead := c.ticksSinceRead + 1, ch := l }
    (on = false → c.tick ram = (d, 0)) ∧
    (on = true → c.freqDivider ≠ 1 → c.tick ram = ({ d with freqDivider := c.freqDivider - 1 }, c.lastOutput)) ∧
    (∀ b, on = true → c.freqDivider = 1 → c.triggered = false → ram[c.wi / 2]? = some b →
      let n := if c.wi % 2 = 0 then b.toNat / 16 else b.toNat % 16
      let sample := match c.ch.nr2.toNat / 32 % 4 with | 0 => 0 | 1 => n | 2 => n / 2 | _ => n / 4
      c.tick ram =
        ({ d with freqDivider := ((2048 - (c.ch.nr3.toNat + 256 * (c.ch.nr4.toNat % 8))) * 2 : Nat), wi := (c.wi + 1) % 32
                  ticksSinceRead := 0, lastRead := some (c.wi / 2), buffer := b, lastOutput := sample }, sample)) ∧
    (on = true → c.freqDivider = 1 → c.triggered = true →
      (c.tick ram).2 = c.buffer.toNat / 16 ∧ (c.tick ram).1.triggered = false ∧ (c.tick ram).1.wi = (c.wi + 1) % 32) := by
  intro l on d
  have hon (h : on = true) : c.tick ram = (d.generate ram, (d.generate ram).lastOutput) := if_pos h
  refine ⟨fun h => if_neg (show ¬ on = true by rw [h]; nofun), fun h hd => ?_, fun b h hd ht hb => ?_, fun h hd ht => ?_⟩
  · rw [hon h, generate_counts (c := d) ram hd]
  · rw [hon h, generate_samples (c := d) ram hd ht hb, Channel.frequency_eq]
    rfl
  · rw [hon h, generate_triggered (c := d) ram hd ht]
    exact ⟨rfl, rfl, rfl⟩

end Wave

end Sys2Proof.Machine


namespace Sys2Proof.Machine

namespace Noise

variable (c : Noise)

/-- The divisor of a polynomial step, and its shift. -/
theorem polyWrite_eq (v : Byte) : c.polyWrite v =
    { c with pi := 1
             shiftedDivisor := (if v.toNat % 8 = 0 then 8 else 16 * (v.toNat % 8)) * 2 ^ (v.toNat / 16) } := by
  have hv : v.toNat < 2 ^ 8 := v.isLt
  have hlow : field v 0 3 = v.toNat % 8 := by
    rw [field_eq]
    omega
  have hhigh : field v 4 4 = v.toNat / 16 := by
    rw [field_eq]
    omega
  have htable : ∀ k < 8, nth 8 [8, 16, 32, 48, 64, 80, 96, 112] k = if k = 0 then 8 else 16 * k := by decide
  rw [polyWrite, hlow, hhigh, htable _ (by omega), Nat.shiftLeft_eq]

/-- Setting one bit of the LFSR. -/
theorem getLsbD_setBit (y : BitVec 15) (b : Bool) {k j : Nat} (hk : k < 15) (hj : j < 15) :
    (y &&& ~~~(1#15 <<< k) ||| (if b then 1#15 <<< k else 0)).getLsbD j = if j = k then b else y.getLsbD j := by
  have hmask : (1#15 <<< k).getLsbD j = decide (j = k) := by
    rw [← BitVec.twoPow_eq, BitVec.getLsbD_twoPow]
    exact (Bool.and_eq_right_iff_imp.2 fun _ => decide_eq_true hk).trans (decide_eq_decide.2 eq_comm)
  have hset : (if b then 1#15 <<< k else (0 : BitVec 15)).getLsbD j = (b && decide (j = k)) := by
    cases b with
    | false => exact BitVec.getLsbD_zero
    | true => exact hmask
  rw [BitVec.getLsbD_or, BitVec.getLsbD_and, BitVec.getLsbD_not, hmask, hset, decide_eq_true hj]
  by_cases h : j = k
  · simp [h]
  · simp [h]

/-- The LFSR shifts right, and the exclusive or of its two low bits enters at bit 14, and at bit 6 in the 7-bit mode. -/
theorem getLsbD_lfsrNext (x : BitVec 15) (wide : Bool) {j : Nat} (hj : j < 15) : (lfsrNext x wide).getLsbD j =
    if j = 14 ∨ (j = 6 ∧ wide = true) then x.getLsbD 0 != x.getLsbD 1 else x.getLsbD (j + 1) := by
  have hshift : (x >>> 1).getLsbD j = x.getLsbD (j + 1) := by rw [BitVec.getLsbD_ushiftRight, Nat.add_comm]
  unfold lfsrNext
  cases wide with
  | false =>
    simp only [Bool.false_eq_true, if_false, and_false, or_false]
    rw [getLsbD_setBit _ _ (by decide) hj, hshift]
  | true =>
    simp only [if_true, and_true]
    rw [getLsbD_setBit _ _ (by decide) hj, getLsbD_setBit _ _ (by decide) hj, hshift, ← ite_or]
    exact if_congr or_comm rfl rfl

theorem one_sub_bit01 (b : Bool) : 1 - bit01 b = if b then 0 else 1 := by cases b <;> rfl

/-- The part of a tick of channel 4 after its enables are settled, as `Pulse.generate` is for the pulse channels. -/
def generate : Noise :=
  if c.pi - 1 = 0 then
    let y := lfsrNext c.lfsr (c.ch.nr3.getLsbD 3)
    { c with pi := (c.shiftedDivisor : Int), lfsr := y, lastResult := 1 - bit01 (y.getLsbD 0) }
  else { c with pi := c.pi - 1 }

variable {c} in
theorem generate_counts (h : c.pi ≠ 1) : c.generate = { c with pi := c.pi - 1 } :=
  if_neg fun hz => h ((sub_one_eq_zero_iff _).1 hz)

variable {c} in
theorem generate_shifts (h : c.pi = 1) : c.generate =
    let y := lfsrNext c.lfsr (c.ch.nr3.getLsbD 3)
    { c with pi := (c.shiftedDivisor : Int), lfsr := y, lastResult := if y.getLsbD 0 then 0 else 1 } := by
  rw [generate, if_pos ((sub_one_eq_zero_iff _).2 h)]
  simp only [one_sub_bit01]

theorem tick_eq :
    let q := { c with env := c.env.tick, ch := c.ch.updateLength }
    let y := Noise.lfsrNext c.lfsr (c.ch.nr3.getLsbD 3)
    let level := if y.getLsbD 0 then 0 else 1
    (q.ch.isEnabled = false → c.tick = (q, 0)) ∧
    (q.ch.isEnabled = true → c.pi ≠ 1 → c.tick = ({ q with pi := c.pi - 1 }, c.lastResult * c.env.tick.output)) ∧
    (q.ch.isEnabled = true → c.pi = 1 →
      c.tick = ({ q with pi := (c.shiftedDivisor : Int), lfsr := y, lastResult := level }, level * c.env.tick.output)) := by
  intro q y level
  have hon (h : q.ch.isEnabled = true) : c.tick = (q.generate, q.generate.lastResult * q.generate.env.output) := if_pos h
  refine ⟨fun h => if_neg (show ¬ q.ch.isEnabled = true by rw [h]; nofun), fun h hp => ?_, fun h hp => ?_⟩
  · rw [hon h, generate_counts (c := q) hp]
  · rw [hon h, generate_shifts (c := q) hp]
    rfl

end Noise

theorem dutyBit_eq {d j : Nat} (hd : d < 4) (hj : j < 8) : some (dutyBit d j) =
    ([[1, 0, 0, 0, 0, 0, 0, 0], [1, 0, 0, 0, 0, 0, 0, 1], [1, 1, 1, 0, 0, 0, 0, 1], [0, 1, 1, 1, 1, 1, 1, 0]]
      : List (List Nat))[d]?.bind (fun row => row[j]?) := by
  have hall : ∀ d < 4, ∀ j < 8, some (dutyBit d j) =
      ([[1, 0, 0, 0, 0, 0, 0, 0], [1, 0, 0, 0, 0, 0, 0, 1], [1, 1, 1, 0, 0, 0, 0, 1], [0, 1, 1, 1, 1, 1, 1, 0]]
        : List (List Nat))[d]?.bind (fun row => row[j]?) := by decide
  exact hall d hd j hj

/-! ### Wave RAM (49_dma_apu R508, R512) -/

theorem nth_set_ne {α : Type} (d x : α) (xs : List α) {i k : Nat} (h : i ≠ k) : nth d (xs.set i x) k = nth d xs k := by
  induction xs generalizing i k with
  | nil => rfl
  | cons y ys ih =>
    cases i with
    | zero =>
      cases k with
      | zero => exact absurd rfl h
      | succ k => rfl
    | succ i =>
      cases k with
      | zero => rfl
      | succ k => exact ih fun hik => h (congrArg _ hik)

namespace Wave

variable (c : Wave) (ram : List Byte)

/-- From the fifth byte on, the block of four that the sample is in replaces the first four. -/
theorem corrupted_block {j : Nat} (hlen : ram.length = 16) (hwi : c.wi < 32) (hpos : 4 ≤ c.wi / 2) (hj : j < 4) :
    (c.corrupted ram)[j]? = ram[c.wi / 8 * 4 + j]? := by
  have hblock : c.wi / 2 / 4 * 4 = c.wi / 8 * 4 := by omega
  have hcopy : c.corrupted ram = (((ram.set 0 (nth 0 ram (c.wi / 8 * 4))).set 1 (nth 0 ram (c.wi / 8 * 4 + 1))).set 2
      (nth 0 ram (c.wi / 8 * 4 + 2))).set 3 (nth 0 ram (c.wi / 8 * 4 + 3)) := by
    simp (disch := omega) only [corrupted, if_neg, List.foldl_cons, List.foldl_nil, hblock, nth_set_ne, Nat.mod_eq_of_lt,
      Nat.add_zero]
  have hread (k : Nat) (hk : k < 4) : ram[c.wi / 8 * 4 + k]? = some (nth 0 ram (c.wi / 8 * 4 + k)) :=
    getElem?_eq_some_nth 0 (by omega)
  rw [hcopy, hread j hj]
  interval_cases j <;> simp [hlen]

/-- In the first four bytes, the one that the sample is in replaces the first. -/
theorem corrupted_first (hlen : ram.length = 16) (hpos : c.wi / 2 < 4) : (c.corrupted ram)[0]? = ram[c.wi / 2]? ∧
    ∀ j, j ≠ 0 → (c.corrupted ram)[j]? = ram[j]? := by
  rw [corrupted, if_pos hpos]
  refine ⟨?_, fun j hj => List.getElem?_set_ne (Ne.symm hj)⟩
  rw [List.getElem?_set_self (by omega), getElem?_eq_some_nth 0 (by omega)]

theorem access_off {cgb : Bool} {off : Nat} (h : c.ch.isEnabled = false) : c.access cgb off = some off := by
  rw [access, h]
  rfl

/-- While channel 3 plays, an access goes to the byte last read, or on a DMG too late is lost. -/
theorem access_playing {cgb : Bool} {off j : Nat} (h : c.ch.isEnabled = true) (hj : c.lastRead = some j) :
    c.access cgb off = if cgb = true ∨ c.ticksSinceRead < 2 then some j else none := by
  simp only [access, h, hj, if_true, Bool.or_eq_true, decide_eq_true_eq]

end Wave

section
variable (s : State) {k : Nat} (hk : k < 16)
include hk

theorem isRegister_waveRam : isRegister (BitVec.ofNat 16 (0xFF30 + k)) = true := by
  have hall : (List.range 16).all (fun k => isRegister (BitVec.ofNat 16 (0xFF30 + k))) = true := by decide
  exact List.all_eq_true.1 hall k (List.mem_range.2 hk)

theorem toNat_waveRam : (BitVec.ofNat 16 (0xFF30 + k)).toNat = 0xFF30 + k := by
  rw [BitVec.toNat_ofNat]
  omega

/-- Wave RAM is the sound unit's alone. -/
theorem memWrite_waveRam (v : Byte) : memWrite s (BitVec.ofNat 16 (0xFF30 + k)) v =
    { s with apu := s.apu.writeWave s.cfg.cgb k v } := by
  rw [memWrite_register s (isRegister_waveRam hk), toNat_waveRam hk]
  interval_cases k <;> rfl

theorem memRead_waveRam : memRead s (BitVec.ofNat 16 (0xFF30 + k)) = s.apu.readWave s.cfg.cgb k := by
  rw [memRead_register s (isRegister_waveRam hk), toNat_waveRam hk, readDevice_apu s (by omega) (by omega), Apu.read,
    if_neg (by omega), if_pos (by omega), Nat.add_sub_cancel_left]

theorem waveRam_off (v : Byte) (hlen : s.apu.waveRam.length = 16) (hoff : s.apu.ch3.ch.isEnabled = false) :
    memRead (memWrite s (BitVec.ofNat 16 (0xFF30 + k)) v) (BitVec.ofNat 16 (0xFF30 + k)) = v ∧
      (memWrite s (BitVec.ofNat 16 (0xFF30 + k)) v).apu = { s.apu with waveRam := s.apu.waveRam.set k v } := by
  have hwrite : s.apu.writeWave s.cfg.cgb k v = { s.apu with waveRam := s.apu.waveRam.set k v } := by
    rw [Apu.writeWave, Wave.access_off _ hoff]
  rw [memWrite_waveRam s hk, memRead_waveRam _ hk, hwrite]
  refine ⟨?_, rfl⟩
  rw [Apu.readWave, Wave.access_off _ hoff]
  exact nth_eq_of_getElem? (List.getElem?_set_self (by omega))

/-- Playing, and in reach: the access goes to the byte last read. -/
theorem waveRam_playing {j : Nat} {b : Byte} (hon : s.apu.ch3.ch.isEnabled = true) (hj : s.apu.ch3.lastRead = some j)
    (hb : s.apu.waveRam[j]? = some b) (hreach : s.cfg.cgb = true ∨ s.apu.ch3.ticksSinceRead < 2) :
    memRead s (BitVec.ofNat 16 (0xFF30 + k)) = b ∧
      ∀ v, (memWrite s (BitVec.ofNat 16 (0xFF30 + k)) v).apu = { s.apu with waveRam := s.apu.waveRam.set j v } := by
  have haccess : s.apu.ch3.access s.cfg.cgb k = some j := (Wave.access_playing _ hon hj).trans (if_pos hreach)
  refine ⟨?_, fun v => ?_⟩
  · rw [memRead_waveRam s hk, Apu.readWave, haccess]
    exact nth_eq_of_getElem? hb
  · rw [memWrite_waveRam s hk, Apu.writeWave, haccess]

/-- Playing on a DMG, and too late: the access is lost. -/
theorem waveRam_lost {j : Nat} (hon : s.apu.ch3.ch.isEnabled = true) (hj : s.apu.ch3.lastRead = some j)
    (hlate : s.cfg.cgb = false ∧ 2 ≤ s.apu.ch3.ticksSinceRead) :
    memRead s (BitVec.ofNat 16 (0xFF30 + k)) = 0xFF ∧ ∀ v, memWrite s (BitVec.ofNat 16 (0xFF30 + k)) v = s := by
  have hunreached : ¬ (s.cfg.cgb = true ∨ s.apu.ch3.ticksSinceRead < 2) := by
    rintro (h | h)
    · exact absurd (hlate.1.symm.trans h) nofun
    · omega
  have haccess : s.apu.ch3.access s.cfg.cgb k = none := (Wave.access_playing _ hon hj).trans (if_neg hunreached)
  refine ⟨?_, fun v => ?_⟩
  · rw [memRead_waveRam s hk, Apu.readWave, haccess]
  · rw [memWrite_waveRam s hk, Apu.writeWave, haccess]

end

/-! ### The mixer (49_dma_apu R483) -/

theorem bit01_mul (b : Bool) (n : Nat) : bit01 b * n = if b then n else 0 := by
  cases b with
  | false => exact Nat.zero_mul n
  | true => exact Nat.one_mul n

/-- NR50 scales the sum of the channels that NR51 routes. -/
theorem Apu.tick_sample (u : Apu) (h : u.enabled = true) :
    let o1 := (u.ch1.tick1 u.sweep).2.2
    let o2 := u.ch2.tick2.2
    let o3 := (u.ch3.tick u.waveRam).2
    let o4 := u.ch4.tick.2
    let routed (k n : Nat) : Nat := if u.nr51.getLsbD k then n else 0
    u.tick.2 = some
      ((routed 4 o1 + routed 5 o2 + routed 6 o3 + routed 7 o4) / 4 * (u.nr50.toNat / 16 % 8),
       (routed 0 o1 + routed 1 o2 + routed 2 o3 + routed 3 o4) / 4 * (u.nr50.toNat % 8)) := by
  intro o1 o2 o3 o4 routed
  have hmix (lo : Nat) : mix u.nr51 lo o1 o2 o3 o4 =
      routed lo o1 + routed (lo + 1) o2 + routed (lo + 2) o3 + routed (lo + 3) o4 := by
    simp only [mix, bit01_mul]
    rfl
  have hright : field u.nr50 0 3 = u.nr50.toNat % 8 := by
    rw [field_eq]
    omega
  have hleft : field u.nr50 4 3 = u.nr50.toNat / 16 % 8 := field_eq _ _ _
  have htick : u.tick.2 = some (mix u.nr51 4 o1 o2 o3 o4 / 4 * field u.nr50 4 3,
      mix u.nr51 0 o1 o2 o3 o4 / 4 * field u.nr50 0 3) := by
    rw [tick, if_pos h]
  rw [htick, hmix, hmix, hleft, hright]

/-- A unit without power makes no sample. -/
theorem soundTick_off {s : State} (h : s.apu.enabled = false) :
    (soundTick s).apu = s.apu ∧ (soundTick s).host.calls = s.host.calls := by
  have htick : s.apu.tick = (s.apu, none) := by
    rw [Apu.tick, h]
    rfl
  have hclock : s.apu.clock s.cfg.sampleDivider = (s.apu, []) := by simp only [Apu.clock, htick]
  rw [soundTick, hclock]
  exact ⟨rfl, rfl⟩

/-! ### The statement -/

section
variable (s : State) {v : Byte}

theorem memWrite_nr52 (v : Byte) : memWrite s 0xFF26 v =
    { s with apu := s.apu.writeNr52 s.cfg.cgb v, host := s.host.push (deviceCalls s 0xFF26 v) } :=
  (memWrite_register s (by decide) v).trans (writeDevice_nr52 s v)

theorem nr52_powerOff (h7 : v.getLsbD 7 = false) (hon : s.apu.enabled = true) :
    (memWrite s 0xFF26 v).apu.enabled = false ∧ memRead (memWrite s 0xFF26 v) 0xFF26 = 0x70 ∧
      (memWrite s 0xFF26 v).host.calls = .soundStop :: s.host.calls ∧
      (memWrite s 0xFF26 v).apu.waveRam = s.apu.waveRam := by
  have hoff : s.apu.writeNr52 s.cfg.cgb v = s.apu.powerOff := by
    rw [Apu.writeNr52, bitAt, h7, hon]
    rfl
  have hcalls : deviceCalls s 0xFF26 v = [.soundStop] := by
    rw [deviceCalls_nr52, h7, hon]
    rfl
  have hread (t : State) : memRead t 0xFF26 = t.apu.readNr52 := memRead_register t (by decide)
  rw [hread, memWrite_nr52, hoff, hcalls]
  exact ⟨rfl, Apu.readNr52_powerOff s.apu, rfl, rfl⟩

/-- A write to NR52 that leaves the power state alone changes nothing. -/
theorem nr52_same (h : v.getLsbD 7 = s.apu.enabled) : memWrite s 0xFF26 v = s := by
  have hkeep : s.apu.writeNr52 s.cfg.cgb v = s.apu := by
    rw [Apu.writeNr52, bitAt, h]
    cases s.apu.enabled <;> rfl
  have hcalls : deviceCalls s 0xFF26 v = [] := by
    rw [deviceCalls_nr52, h]
    cases s.apu.enabled <;> rfl
  rw [memWrite_nr52, hkeep, hcalls]
  rfl

theorem nr52_powerOn (h7 : v.getLsbD 7 = true) (hoff : s.apu.enabled = false) :
    (memWrite s 0xFF26 v).apu.enabled = true ∧ (memWrite s 0xFF26 v).host.calls = .soundStart :: s.host.calls := by
  have hon : s.apu.writeNr52 s.cfg.cgb v = s.apu.powerOn s.cfg.cgb := by
    simp only [Apu.writeNr52, bitAt, h7, hoff, Bool.false_eq_true, if_true, if_false]
  have hcalls : deviceCalls s 0xFF26 v = [.soundStart] := by
    rw [deviceCalls_nr52, h7, hoff]
    rfl
  rw [memWrite_nr52, hon, hcalls]
  exact ⟨Apu.powerOn_enabled _ _, rfl⟩

/-- A write to a register of the sound unit, as the unit sees it. -/
theorem memWrite_apu {a : Word} (h : isRegister a = true) (v : Byte) :
    (memWrite s a v).apu = s.apu.write s.cfg.cgb a.toNat v := by
  rw [memWrite_register s h, writeDevice_apu]

/-- A trigger of each channel, by a write to its NRx4. -/
theorem triggers (h7 : v.getLsbD 7 = true) :
    ((memWrite s 0xFF14 v).apu.ch1 =
        { s.apu.ch1 with ch := s.apu.ch1.ch.writeNr4 v, di := 0, freqDivider := 1, env := s.apu.ch1.env.trigger } ∧
      (memWrite s 0xFF14 v).apu.sweep = ({ s.apu.sweep with nr14 := v } : Sweep).trigger) ∧
    (memWrite s 0xFF19 v).apu.ch2 =
      { s.apu.ch2 with ch := s.apu.ch2.ch.writeNr4 v, di := 0, freqDivider := 1, env := s.apu.ch2.env.trigger } ∧
    ((memWrite s 0xFF1E v).apu.ch3.ch = s.apu.ch3.ch.writeNr4 v ∧ (memWrite s 0xFF1E v).apu.ch3.wi = 0 ∧
      (memWrite s 0xFF1E v).apu.ch3.triggered = (!s.cfg.cgb) ∧
      (memWrite s 0xFF1E v).apu.ch3.freqDivider =
        if s.cfg.cgb then (((2048 - (s.apu.ch3.ch.nr3.toNat + 256 * (v.toNat % 8))) * 2 : Nat) : Int) else 6) ∧
    (memWrite s 0xFF23 v).apu.ch4 =
      { s.apu.ch4 with ch := s.apu.ch4.ch.writeNr4 v, lfsr := 0x7FFF, env := s.apu.ch4.env.trigger } := by
  have hch3 : (memWrite s 0xFF1E v).apu.ch3 = s.apu.ch3.writeNr4 s.cfg.cgb v :=
    congrArg Apu.ch3 (memWrite_apu s (by decide) v)
  rw [hch3, Wave.writeNr4_trigger h7]
  refine ⟨⟨?_, ?_⟩, ?_, ⟨rfl, rfl, rfl, rfl⟩, ?_⟩
  · exact (congrArg Apu.ch1 (memWrite_apu s (by decide) v)).trans (Pulse.writeNr4_trigger h7 _)
  · exact (congrArg Apu.sweep (memWrite_apu s (by decide) v)).trans (Sweep.writeNr14_trigger h7 _)
  · exact (congrArg Apu.ch2 (memWrite_apu s (by decide) v)).trans (Pulse.writeNr4_trigger h7 _)
  · exact (congrArg Apu.ch4 (memWrite_apu s (by decide) v)).trans (Noise.writeNr4_trigger h7 _)

theorem waveRam_trigger (v : Byte) : (memWrite s 0xFF1E v).apu.waveRam =
    if v.getLsbD 7 = true ∧ s.cfg.cgb = false ∧ s.apu.ch3.ch.isEnabled = true ∧ s.apu.ch3.freqDivider = 2
    then s.apu.ch3.corrupted s.apu.waveRam else s.apu.waveRam := by
  have hram : (memWrite s 0xFF1E v).apu.waveRam =
      if s.apu.ch3.corrupts s.cfg.cgb v then s.apu.ch3.corrupted s.apu.waveRam else s.apu.waveRam :=
    congrArg Apu.waveRam (memWrite_apu s (by decide) v)
  rw [hram]
  refine if_congr ?_ rfl rfl
  rw [Wave.corrupts, Bool.and_eq_true, Bool.and_eq_true, Bool.and_eq_true, Bool.not_eq_true', decide_eq_true_eq, and_assoc,
    and_assoc]
  exact Iff.rfl

end

/-- Settles O59: clause by clause, from the laws of the unit's parts above. -/
theorem soundUnit : Obligations.SoundUnit := by
  refine ⟨fun s v => nr52_powerOff s, fun s v => nr52_same s, fun s v => nr52_powerOn s, fun s => soundTick_off,
    fun s v w => memRead_memWrite_soundRegister s v, fun c v => ?channel, fun s v => triggers s, fun s v => ?nr30,
    fun l => ⟨l.tick_wraps, l.tick_counts⟩, fun c => ⟨rfl, rfl⟩, fun l v => ?length, fun e => ?envelope,
    fun w => ⟨w.trigger_of_no_shift, w.trigger_up, fun v => w.writeNr10_leavingNegate⟩, fun w => ?sweep,
    Pulse.tick1_overflow, fun s k v hk hlen hoff => waveRam_off s hk v hlen hoff, fun s k j b hk hon hj hb => ?playing,
    fun c ram j => c.corrupted_block ram, fun c ram => c.corrupted_first ram, waveRam_trigger,
    fun x wide j => Noise.getLsbD_lfsrNext x wide, fun d j => dutyBit_eq, Pulse.tick2_eq, Pulse.tick1_eq, Wave.tick_eq,
    Noise.tick_eq, Apu.tick_sample, Noise.polyWrite_eq⟩
  case channel => exact ⟨c.writeNr2_eq v, c.writeLength6_eq v, rfl, rfl, rfl⟩
  case nr30 => exact congrArg Apu.ch3 (memWrite_apu s (by decide) v)
  case length =>
    refine ⟨rfl, fun he hen hli h7 => ?_, LengthCounter.writeNr4_enabling_trigger, fun h7 h => ?_, fun _ h0 h => ?_,
      LengthCounter.writeNr4_reload⟩
    · rw [LengthCounter.writeNr4_enabling_early he hen hli, if_neg fun h => Bool.eq_false_iff.1 h7 h.2]
    · exact LengthCounter.writeNr4_keeps h (.inl h7)
    · exact LengthCounter.writeNr4_keeps h (.inr h0)
  case envelope =>
    refine ⟨rfl, fun h => ?_, fun h hend => ?_, fun h hgoes => ?_, rfl⟩
    · rw [e.tick_eq, if_pos h]
    · rw [e.tick_eq, if_neg (Bool.eq_false_iff.1 h), if_pos hend]
    · rw [e.tick_eq, if_neg (Bool.eq_false_iff.1 h), if_neg hgoes]
  case sweep =>
    refine ⟨Sweep.tick_counts, Sweep.tick_disabled, fun h hc ht => ?_,
      fun h hc ht hp hs hn ho => Sweep.tick_up h hc ht hp hs hn ho rfl⟩
    rw [Sweep.tick_enabled h hc, if_neg ht]
  case playing => exact ⟨waveRam_playing s hk hon hj hb, waveRam_lost s hk hon hj⟩

end Sys2Proof.Machine

/-! ## Interrupts: the statements of the family 60_exceptions -/

namespace Sys2Proof.Machine

/-! ### Requests, enables and priority (60_exceptions R550, R552, R554) -/

namespace IrqCtl

theorem bitAt_readIf (q : IrqCtl) {i : Nat} (h : i < 5) : bitAt q.readIf i = q.ifFlags.getLsbD i := by
  have hhigh : (0xE0#8).getLsbD i = false := by
    interval_cases i <;> rfl
  have hwidth : decide (i < 8) = true := decide_eq_true (by omega)
  rw [bitAt, readIf, BitVec.getLsbD_or, BitVec.getLsbD_setWidth, hwidth]
  exact (congrArg (· || (true && q.ifFlags.getLsbD i)) hhigh).trans (Bool.false_or _)

theorem pending_iff (q : IrqCtl) : q.pending = true ↔ ∃ i, i < 5 ∧ bitAt q.readIf i = true ∧ bitAt q.ie i = true := by
  have hbit (i : Nat) (h : i < 5) : (q.ifFlags &&& q.ie.setWidth 5).getLsbD i = (bitAt q.readIf i && bitAt q.ie i) := by
    rw [BitVec.getLsbD_and, BitVec.getLsbD_setWidth, decide_eq_true h, Bool.true_and, q.bitAt_readIf h]
    rfl
  rw [pending, decide_eq_true_eq]
  constructor
  · intro hne
    by_contra hnone
    refine hne (BitVec.eq_of_getLsbD_eq fun i hi => ?_)
    rw [hbit i hi]
    exact (Bool.eq_false_iff.2 fun h => hnone ⟨i, hi, Bool.and_eq_true_iff.1 h⟩).trans BitVec.getLsbD_zero.symm
  · rintro ⟨i, hi, hboth⟩ hzero
    have htrue := (hbit i hi).trans (Bool.and_eq_true_iff.2 hboth)
    rw [hzero] at htrue
    exact absurd (BitVec.getLsbD_zero.symm.trans htrue) nofun

/-- The sources in the order of their numbers. -/
def sources : List Irq := [.vblank, .lcdc, .timer, .serial, .joypad]

theorem mem_sources (i : Irq) : i ∈ sources := by cases i <;> decide

theorem sources_ordered : sources.Pairwise (fun i j => i.number < j.number) := by decide

/-- The first of a list of sources in order that meets a condition is the one no lower-numbered one of which meets it. -/
theorem find?_sources_eq_some_iff (p : Irq → Bool) (i : Irq) :
    sources.find? p = some i ↔ p i = true ∧ ∀ j : Irq, j.number < i.number → ¬ p j = true := by
  rw [List.find?_eq_some_iff_append]
  refine and_congr_right fun _ => ⟨?_, fun hlower => ?_⟩
  · rintro ⟨before, after, hsplit, hbefore⟩ j hj
    have hmem : j ∈ before ++ i :: after := hsplit ▸ mem_sources j
    have hordered : (before ++ i :: after).Pairwise (fun i j => i.number < j.number) := hsplit ▸ sources_ordered
    rcases List.mem_append.1 hmem with hb | ha
    · simpa using hbefore j hb
    · rcases List.mem_cons.1 ha with rfl | ha
      · exact absurd hj (Nat.lt_irrefl _)
      · have hafter := (List.pairwise_cons.1 (List.pairwise_append.1 hordered).2.1).1 j ha
        omega
  · obtain ⟨before, after, hsplit⟩ := List.append_of_mem (mem_sources i)
    have hordered : (before ++ i :: after).Pairwise (fun i j => i.number < j.number) := hsplit ▸ sources_ordered
    refine ⟨before, after, hsplit, fun j hj => ?_⟩
    have hlt := (List.pairwise_append.1 hordered).2.2 j hj i List.mem_cons_self
    simpa using hlower j hlt

theorem select_eq_some_iff (f e : Byte) (i : Irq) : select f e = some i ↔
    ((bitAt f i.number = true ∧ bitAt e i.number = true) ∧
      ∀ j : Irq, j.number < i.number → ¬ (bitAt f j.number = true ∧ bitAt e j.number = true)) := by
  refine (find?_sources_eq_some_iff _ i).trans ?_
  simp only [Bool.and_eq_true]

theorem select_eq_none_iff (f e : Byte) :
    select f e = none ↔ ∀ j : Irq, ¬ (bitAt f j.number = true ∧ bitAt e j.number = true) := by
  refine List.find?_eq_none.trans ⟨fun h j => ?_, fun h j _ => ?_⟩
  · simpa only [Bool.and_eq_true] using h j (mem_sources j)
  · simpa only [Bool.and_eq_true] using h j

end IrqCtl

/-- Settles O8: bit by bit. -/
theorem pendingMeansRequestedAndEnabled : Obligations.PendingMeansRequestedAndEnabled :=
  fun q _ => ⟨q.pending_iff, rfl⟩

/-- Settles O11: the sources are searched in the order of their numbers. -/
theorem interruptPriority : Obligations.InterruptPriority :=
  ⟨IrqCtl.select_eq_some_iff, IrqCtl.select_eq_none_iff, by decide⟩

/-! ### The delays of EI and DI (60_exceptions R561 to R564) -/

/-- Settles O12: by the states of the two counters. -/
theorem imeDelays : Obligations.ImeDelays := by
  refine ⟨fun q d h => ?_, fun q h => ?_, fun q => rfl, fun q => rfl, fun q d => ?_, fun q => ⟨rfl, rfl⟩,
    fun q h => if_neg h, fun q h => if_neg h, fun q d he hd => ?_⟩
  · have henable : q.enable true = { q with pendingDisable := .idle, pendingEnable := .one } :=
      congrArg (fun c => { q with pendingDisable := .idle, pendingEnable := c }) (if_pos h)
    rw [henable]
    exact ⟨rfl, rfl⟩
  · have hdisable : q.disable true true = { q with pendingEnable := .idle, pendingDisable := .one } :=
      congrArg (fun c => { q with pendingEnable := .idle, pendingDisable := c }) (if_pos h)
    rw [hdisable]
    exact ⟨rfl, rfl⟩
  · cases d <;> rfl
  · rw [IrqCtl.instructionFinished, IrqCtl.stepEnable, he, IrqCtl.stepDisable, hd]

/-! ### The one exception (60_exceptions R540, R577) -/

/-- Settles O6: the loop of master ticks has been left. -/
theorem stuckMachineStaysStuck : Obligations.StuckMachineStaysStuck := by
  intro s u h
  refine ⟨machineTick_stopped s ?_, ?_⟩
  · rw [State.loops, h]
    rfl
  · rw [step, machineStep, h]

/-! ### The interrupt sequence (60_exceptions R565 to R570) -/

section
variable (u : State) (r : Regs) (e : Engine)

theorem irqPush1_withCpu : irqPush1 (u.withCpu r e) =
    (memWrite u (r.sp - 1) (hiByte r.pc)).withCpu { r with sp := r.sp - 1 } { e with fsm := .irqPush2 } := by
  rw [irqPush1, pushByte_withCpu, memWrite_withCpu]
  rfl

theorem irqPush2_withCpu : irqPush2 (u.withCpu r e) =
    (memWrite u (r.sp - 1) (loByte r.pc)).withCpu { r with sp := r.sp - 1 } { e with fsm := .irqJump } := by
  rw [irqPush2, pushByte_withCpu, memWrite_withCpu]
  rfl

end

section
variable (s : State)

/-- The engine after the first step, which reads IF. -/
def State.engineReadIf (s : State) : Engine := { s.eng with irqIF := memRead s 0xFF0F, fsm := .irqReadIe }

/-- The engine after the read of IE in the second step. -/
def State.engineReadIe (s : State) : Engine :=
  { s.engineReadIf with irqIE := memRead (nextCycle s) 0xFFFF
                        irqSel := IrqCtl.select (memRead s 0xFF0F) (memRead (nextCycle s) 0xFFFF) }

theorem irqReadIe_eq : irqReadIe (nextCycle (irqReadIf s)) =
    irqAcknowledge ((nextCycle s).withCpu s.regs s.engineReadIe) := by
  have hif : irqReadIf s = s.withCpu s.regs s.engineReadIf := rfl
  rw [hif, nextCycle_withCpu]
  rfl

variable {s}

/-- Without a source the sequence ends after the second step. -/
theorem takeInterrupt_of_none (h : IrqCtl.select (memRead s 0xFF0F) (memRead (nextCycle s) 0xFFFF) = none) :
    takeInterrupt s = (nextCycle s).withCpu s.regs { s.engineReadIe with fsm := .opcode } := by
  have hack : irqReadIe (nextCycle (irqReadIf s)) =
      (nextCycle s).withCpu s.regs { s.engineReadIe with fsm := .opcode } := by
    rw [irqReadIe_eq, irqAcknowledge, withCpu_eng, State.engineReadIe, h]
    rfl
  rw [takeInterrupt, hack]
  simp only [withCpu_eng, State.engineReadIe, h]

/-- The machine after the second step, the source acknowledged. -/
def acknowledged (s : State) (i : Irq) : State :=
  (nextCycle s).setIrq
    { ime := false, pendingEnable := .idle, pendingDisable := .idle
      ifFlags := (nextCycle s).irq.ifFlags &&& ~~~(1#5 <<< i.number), ie := (nextCycle s).irq.ie }

/-- The machine after the two pushes. -/
def pushedPc (s : State) (i : Irq) : State :=
  memWrite (nextCycle (memWrite (nextCycle (acknowledged s i)) (s.regs.sp - 1) (hiByte s.regs.pc))) (s.regs.sp - 2)
    (loByte s.regs.pc)

theorem takeInterrupt_of_some {i : Irq} (h : IrqCtl.select (memRead s 0xFF0F) (memRead (nextCycle s) 0xFFFF) = some i) :
    takeInterrupt s = (nextCycle (pushedPc s i)).withCpu { s.regs with sp := s.regs.sp - 2, pc := i.vector }
      { s.engineReadIe with irqSel := none, fsm := .opcode } := by
  have hsp : s.regs.sp - 1 - 1 = s.regs.sp - 2 := by bv_omega
  have hack : irqReadIe (nextCycle (irqReadIf s)) =
      (acknowledged s i).withCpu s.regs { s.engineReadIe with fsm := .irqPush1 } := by
    rw [irqReadIe_eq, irqAcknowledge, withCpu_eng, State.engineReadIe, h]
    rfl
  have hsel : s.engineReadIe.irqSel = some i := h
  rw [takeInterrupt, hack]
  simp only [withCpu_eng, hsel, nextCycle_withCpu, irqPush1_withCpu, irqPush2_withCpu, hsp]
  rfl

end

/-- Settles O10: the machine of each step is the one before it with other registers and another engine state. -/
theorem interruptSequence : Obligations.InterruptSequence := by
  refine ⟨fun s h => ?_, fun s i h => ?_⟩
  · rw [takeInterrupt_of_none h]
    exact ⟨rfl, rfl, rfl, rfl⟩
  · dsimp only
    rw [takeInterrupt_of_some h]
    exact ⟨rfl, rfl, rfl, rfl, stored_memWrite _ _ _, stored_memWrite _ _ _⟩

end Sys2Proof.Machine


namespace Sys2Proof.Machine

/-! ### The timer (60_exceptions R581 to R587) -/

namespace Timer

section
variable (t : Timer) (n : Word)

theorem level_eq : t.level n =
    (t.tac.getLsbD 2 && n.getLsbD (match t.tac.toNat % 4 with | 0 => 9 | 1 => 3 | 2 => 5 | _ => 7)) := by
  have hfield : field t.tac 0 2 = t.tac.toNat % 4 := by
    rw [field_eq]
    omega
  rw [level, selectedBit, hfield, Bool.and_comm]
  rfl

theorem level_zero : t.level 0 = false := by
  rw [level_eq, BitVec.ofNat_eq_ofNat, BitVec.getLsbD_zero, Bool.and_false]

theorem incTima_tima : t.incTima.tima = t.tima + 1 := by
  rw [incTima]
  split
  case isTrue h => exact h.symm
  case isFalse => rfl

/-- The bits of TAC that are not stored read 1. -/
theorem read_tac (v : Byte) : 0xF8#8 ||| (v.setWidth 3).setWidth 8 = v ||| 0xF8#8 := by
  refine BitVec.eq_of_getLsbD_eq fun i hi => ?_
  interval_cases i <;> simp

/-- The timer after what a falling edge does to TIMA. -/
def counted : Timer := if t.prevBit = true ∧ t.level n = false then t.incTima else t

theorem incTima_wraps (h : t.tima = 0xFF) : t.incTima = { t with tima := 0, overflow := true, ticksSinceOverflow := 0 } := by
  rw [incTima, h]
  rfl

theorem incTima_counts (h : t.tima ≠ 0xFF) : t.incTima = { t with tima := t.tima + 1 } :=
  if_neg (by bv_omega)

theorem updateDiv_eq : t.updateDiv n = { t.counted n with div16 := n, prevBit := t.level n } := by
  rw [updateDiv, counted]
  simp only [Bool.and_eq_true, Bool.not_eq_true']

theorem counted_stored : (t.counted n).tma = t.tma ∧ (t.counted n).tac = t.tac := by
  rw [counted, incTima]
  split
  · split <;> exact ⟨rfl, rfl⟩
  · exact ⟨rfl, rfl⟩

end

/-- What a tick of the overflow sequence leaves, by the count before it. -/
def sequenceTick (u : Timer) : Timer × Bool :=
  if u.ticksSinceOverflow = 3 then ({ u with ticksSinceOverflow := 4 }, true)
  else if u.ticksSinceOverflow = 4 then ({ u with ticksSinceOverflow := 5, tima := u.tma }, false)
  else if u.ticksSinceOverflow = 5 then ({ u with ticksSinceOverflow := 0, tima := u.tma, overflow := false }, false)
  else ({ u with ticksSinceOverflow := u.ticksSinceOverflow + 1 }, false)

theorem tick_eq (t : Timer) : t.tick =
    if (t.updateDiv (t.div16 + 1)).overflow = true then (t.updateDiv (t.div16 + 1)).sequenceTick
    else (t.updateDiv (t.div16 + 1), false) := by
  unfold tick
  generalize t.updateDiv (t.div16 + 1) = u
  refine if_congr Iff.rfl ?_ rfl
  obtain ⟨div16, tima, tma, tac, prevBit, overflow, k⟩ := u
  unfold sequenceTick
  dsimp only
  by_cases h3 : k = 3
  · subst h3
    rfl
  by_cases h4 : k = 4
  · subst h4
    rfl
  by_cases h5 : k = 5
  · subst h5
    rfl
  rw [if_neg h3, if_neg h4, if_neg h5, if_neg (by omega), if_neg (by omega), if_neg (by omega)]

/-- The overflow sequence keeps the counter, the edge detector, TMA and TAC. -/
theorem sequenceTick_stored (u : Timer) : u.sequenceTick.1.div16 = u.div16 ∧ u.sequenceTick.1.prevBit = u.prevBit ∧
    u.sequenceTick.1.tma = u.tma ∧ u.sequenceTick.1.tac = u.tac := by
  unfold sequenceTick
  repeat' split
  all_goals exact ⟨rfl, rfl, rfl, rfl⟩

/-- The tick that raises the count to 4 requests, those that raise it to 5 and 6 load TMA, and the last ends the sequence. -/
theorem sequenceTick_spec {u : Timer} (h : u.overflow = true) :
    (u.ticksSinceOverflow ≠ 3 → u.sequenceTick.2 = false) ∧ (u.ticksSinceOverflow = 3 → u.sequenceTick.2 = true) ∧
      (u.ticksSinceOverflow ≠ 4 → u.ticksSinceOverflow ≠ 5 → u.sequenceTick.1.tima = u.tima) ∧
      (u.ticksSinceOverflow = 4 ∨ u.ticksSinceOverflow = 5 → u.sequenceTick.1.tima = u.tma) ∧
      (u.ticksSinceOverflow ≠ 5 →
        u.sequenceTick.1.overflow = true ∧ u.sequenceTick.1.ticksSinceOverflow = u.ticksSinceOverflow + 1) ∧
      (u.ticksSinceOverflow = 5 → u.sequenceTick.1.overflow = false ∧ u.sequenceTick.1.ticksSinceOverflow = 0) := by
  unfold sequenceTick
  by_cases h3 : u.ticksSinceOverflow = 3
  · simp [h3, h]
  by_cases h4 : u.ticksSinceOverflow = 4
  · simp [h4, h]
  by_cases h5 : u.ticksSinceOverflow = 5
  · simp [h5]
  · simp [h3, h4, h5, h]

end Timer

/-- Settles O52: a tick steps the counter with the edge detector, then the overflow sequence. -/
theorem timerOverflow : Obligations.TimerOverflow := by
  refine ⟨Timer.incTima_wraps, Timer.incTima_counts, fun s => ⟨rfl, ?_⟩, fun t => ?_⟩
  · rw [timerTick_irq, IrqCtl.requestIf_eq]
    rfl
  · intro n level u r
    have hlevel : t.level n = level := t.level_eq n
    have hu : t.counted n = u := by rw [Timer.counted, hlevel]
    obtain ⟨htma, htac⟩ := t.counted_stored n
    have hdiv : t.updateDiv n = { u with div16 := n, prevBit := level } := by rw [t.updateDiv_eq, hu, hlevel]
    have hr : r = if u.overflow = true then ({ u with div16 := n, prevBit := level } : Timer).sequenceTick
        else ({ u with div16 := n, prevBit := level }, false) := t.tick_eq.trans (by rw [hdiv])
    rw [hu] at htma htac
    by_cases ho : u.overflow = true
    · rw [if_pos ho] at hr
      rw [hr]
      obtain ⟨hn, hb, hm, hc⟩ := Timer.sequenceTick_stored { u with div16 := n, prevBit := level }
      have hspec := Timer.sequenceTick_spec (u := { u with div16 := n, prevBit := level }) ho
      rw [← htma]
      exact ⟨⟨hn, hb, hm, hc.trans htac⟩, fun h => absurd ho (Bool.eq_false_iff.1 h), fun _ => hspec⟩
    · rw [if_neg ho] at hr
      rw [hr]
      exact ⟨⟨rfl, rfl, htma, htac⟩, fun _ => rfl, fun h => absurd h ho⟩

/-- A write to a register of the timer, as the timer sees it. -/
theorem memWrite_timer (s : State) {a : Word} (h : isRegister a = true) (v : Byte) :
    (memWrite s a v).timer = s.timer.write a.toNat v := by
  rw [memWrite_register s h, writeDevice_timer]

theorem memWrite_div (s : State) (v : Byte) : (memWrite s 0xFF04 v).timer =
    { s.timer.counted 0 with div16 := 0, prevBit := false } := by
  rw [memWrite_timer s (by decide), ← s.timer.level_zero]
  exact s.timer.updateDiv_eq 0

/-- Settles O53: register by register. -/
theorem timerRegisters : Obligations.TimerRegisters := by
  refine ⟨fun s v => ?div, fun s v h => ?tima, fun s v h => ?lost, fun s v => memWrite_timer s (by decide) v,
    fun s v => ⟨memWrite_timer s (by decide) v, ?tac⟩, fun s => ⟨?divRead, ?timaRead, ?tmaRead⟩, fun t n => ?level⟩
  case div =>
    rw [memWrite_div]
    refine ⟨rfl, rfl, fun h => ?_, fun h => ?_⟩
    · rw [Timer.counted, if_pos ⟨h, s.timer.level_zero⟩]
      exact s.timer.incTima_tima
    · rw [Timer.counted, if_neg fun hb => Bool.eq_false_iff.1 h hb.1, ← h]
  case tima => exact (memWrite_timer s (by decide) v).trans (if_pos h)
  case lost => exact (memWrite_timer s (by decide) v).trans (if_neg (Nat.not_lt.2 h))
  case tac =>
    have hread : memRead (memWrite s 0xFF07 v) 0xFF07 = (memWrite s 0xFF07 v).timer.read 0xFF07 :=
      memRead_register _ (by decide)
    rw [hread, memWrite_timer s (by decide)]
    exact Timer.read_tac v
  case divRead => exact memRead_register s (by decide)
  case timaRead => exact memRead_register s (by decide)
  case tmaRead => exact memRead_register s (by decide)
  case level => exact (congrArg Timer.prevBit (t.updateDiv_eq n)).trans (t.level_eq n)

end Sys2Proof.Machine


namespace Sys2Proof.Machine

/-! ### The joypad and the serial port (60_exceptions R556, R557) -/

theorem getLsbD_maskIf (b : Bool) (m : Byte) (i : Nat) : (maskIf b m).getLsbD i = (b && m.getLsbD i) := by
  cases b with
  | false => exact BitVec.getLsbD_zero
  | true => rfl

namespace Joypad

variable (j : Joypad)

theorem getLsbD_directionMask (p : Pressed) (i : Nat) : (directionMask p).getLsbD i =
    (p.right && (0x01#8).getLsbD i || p.left && (0x02#8).getLsbD i || p.up && (0x04#8).getLsbD i ||
      p.down && (0x08#8).getLsbD i) := by
  simp only [directionMask, BitVec.getLsbD_or, getLsbD_maskIf]
  rfl

theorem getLsbD_buttonMask (p : Pressed) (i : Nat) : (buttonMask p).getLsbD i =
    (p.a && (0x01#8).getLsbD i || p.b && (0x02#8).getLsbD i || p.select && (0x04#8).getLsbD i ||
      p.start && (0x08#8).getLsbD i) := by
  simp only [buttonMask, BitVec.getLsbD_or, getLsbD_maskIf]
  rfl

/-- A mask left out where a bit is 1. -/
theorem getLsbD_unless (b : Bool) (m : Byte) (i : Nat) : (if b then 0#8 else m).getLsbD i = (!b && m.getLsbD i) := by
  cases b with
  | false => rfl
  | true => exact BitVec.getLsbD_zero

theorem getLsbD_read {i : Nat} (h : i < 8) : j.read.getLsbD i =
    (((0xCF#8).getLsbD i || decide (4 ≤ i) && j.p1sel.getLsbD (i - 4)) &&
      !(!j.p1sel.getLsbD 0 && (directionMask j.pressed).getLsbD i || !j.p1sel.getLsbD 1 && (buttonMask j.pressed).getLsbD i)) := by
  have hsel : (j.p1sel.setWidth 8 <<< 4).getLsbD i = (decide (4 ≤ i) && j.p1sel.getLsbD (i - 4)) := by
    rw [BitVec.getLsbD_shiftLeft, BitVec.getLsbD_setWidth, decide_eq_true h, decide_eq_true (show i - 4 < 8 by omega)]
    simp only [Bool.true_and, ← Nat.not_le, decide_not, Bool.not_not]
  have hpressed := congrArg₂ (· || ·) (getLsbD_unless (j.p1sel.getLsbD 0) (directionMask j.pressed) i)
    (getLsbD_unless (j.p1sel.getLsbD 1) (buttonMask j.pressed) i)
  rw [read, BitVec.getLsbD_and, BitVec.getLsbD_or, hsel, BitVec.getLsbD_not, decide_eq_true h, Bool.true_and,
    BitVec.getLsbD_or]
  exact congrArg (fun b => ((0xCF#8).getLsbD i || decide (4 ≤ i) && j.p1sel.getLsbD (i - 4)) && !b) hpressed

theorem read_low (i : Nat) (h : i < 4) : j.read.getLsbD i =
    !(!j.p1sel.getLsbD 0 && (directionMask j.pressed).getLsbD i || !j.p1sel.getLsbD 1 && (buttonMask j.pressed).getLsbD i) := by
  rw [j.getLsbD_read (by omega)]
  interval_cases i <;> rfl

theorem read_high (i : Nat) (hlo : 4 ≤ i) (hhi : i < 8) : j.read.getLsbD i = ((0xCF#8).getLsbD i || j.p1sel.getLsbD (i - 4)) := by
  have hnone : (directionMask j.pressed).getLsbD i = false ∧ (buttonMask j.pressed).getLsbD i = false := by
    rw [getLsbD_directionMask, getLsbD_buttonMask]
    interval_cases i <;> simp
  rw [j.getLsbD_read hhi, hnone.1, hnone.2, decide_eq_true hlo]
  simp only [Bool.and_false, Bool.or_false, Bool.not_false, Bool.and_true, Bool.true_and]

/-- The selection bits read as written, and the two bits above them read 1. -/
theorem read_selection : j.read.extractLsb' 4 2 = j.p1sel ∧ j.read.extractLsb' 6 2 = 0b11 := by
  constructor
  · refine BitVec.eq_of_getLsbD_eq fun i hi => ?_
    rw [BitVec.getLsbD_extractLsb', decide_eq_true hi, Bool.true_and, j.read_high _ (by omega) (by omega)]
    interval_cases i <;> rfl
  · refine BitVec.eq_of_getLsbD_eq fun i hi => ?_
    rw [BitVec.getLsbD_extractLsb', decide_eq_true hi, Bool.true_and, j.read_high _ (by omega) (by omega)]
    interval_cases i <;> rfl

/-- A pressed button of a selected line reads 0, each on its own bit. -/
theorem read_buttons :
    j.read.getLsbD 0 = !((!j.p1sel.getLsbD 0 && j.pressed.right) || (!j.p1sel.getLsbD 1 && j.pressed.a)) ∧
    j.read.getLsbD 1 = !((!j.p1sel.getLsbD 0 && j.pressed.left) || (!j.p1sel.getLsbD 1 && j.pressed.b)) ∧
    j.read.getLsbD 2 = !((!j.p1sel.getLsbD 0 && j.pressed.up) || (!j.p1sel.getLsbD 1 && j.pressed.select)) ∧
    j.read.getLsbD 3 = !((!j.p1sel.getLsbD 0 && j.pressed.down) || (!j.p1sel.getLsbD 1 && j.pressed.start)) := by
  have hdirection : (directionMask j.pressed).getLsbD 0 = j.pressed.right ∧
      (directionMask j.pressed).getLsbD 1 = j.pressed.left ∧ (directionMask j.pressed).getLsbD 2 = j.pressed.up ∧
      (directionMask j.pressed).getLsbD 3 = j.pressed.down := by
    simp only [getLsbD_directionMask]
    simp
  have hbutton : (buttonMask j.pressed).getLsbD 0 = j.pressed.a ∧ (buttonMask j.pressed).getLsbD 1 = j.pressed.b ∧
      (buttonMask j.pressed).getLsbD 2 = j.pressed.select ∧ (buttonMask j.pressed).getLsbD 3 = j.pressed.start := by
    simp only [getLsbD_buttonMask]
    simp
  obtain ⟨hright, hleft, hup, hdown⟩ := hdirection
  obtain ⟨ha, hb, hselect, hstart⟩ := hbutton
  rw [j.read_low 0 (by decide), j.read_low 1 (by decide), j.read_low 2 (by decide), j.read_low 3 (by decide), hright, hleft,
    hup, hdown, ha, hb, hselect, hstart]
  exact ⟨rfl, rfl, rfl, rfl⟩

end Joypad

/-- Where the first event is not due yet, none is applied. -/
theorem deliver_not_due {events : List (Nat × HostEvent)} (j : Joypad)
    (h : ∀ n e more, events = (n, e) :: more → n ≠ 0) : (deliver events j).joypad = j ∧ (deliver events j).requests = false := by
  cases events with
  | nil => exact ⟨rfl, rfl⟩
  | cons head more =>
    obtain ⟨n, e⟩ := head
    cases n with
    | zero => exact absurd rfl (h 0 e more rfl)
    | succ n => exact ⟨rfl, rfl⟩

/-- The one event due in a tick. -/
theorem applyEvents_single {s : State} {e : HostEvent} {rest : List (Nat × HostEvent)} (hs : s.host.events = (0, e) :: rest)
    (hrest : ∀ n e more, rest = (n, e) :: more → n ≠ 0) :
    (applyEvents s).joypad = s.joypad.apply e ∧ (applyEvents s).irq = s.irq.requestIf e.requests .joypad := by
  obtain ⟨hjoypad, hrequests⟩ := deliver_not_due (s.joypad.apply e) hrest
  simp only [applyEvents, hs, deliver, hjoypad, hrequests, Bool.or_false, and_self]

theorem applyEvents_stop {s : State} {rest : List (Nat × HostEvent)} (hs : s.host.events = (0, .stop) :: rest) :
    (applyEvents s).host.stopFlag = true := by
  simp only [applyEvents, hs, deliver, HostEvent.stops, Bool.true_or, Bool.or_true]

/-- The 512th tick of a transfer ends it. -/
theorem Serial.tick_ends {p : Serial} {peer : SerialPeer} {m : Nat} (hbusy : p.busy = true) (h : 512 ≤ p.div + 1) :
    p.tick peer m =
      ({ p with div := p.div + 1, busy := false, sc := p.sc &&& 0x7F, sb := transfer peer m p.sb }, true) := by
  rw [Serial.tick, if_pos hbusy, if_pos (show p.div + 1 ≥ serialTicks from h)]

theorem Serial.tick_counts {p : Serial} {peer : SerialPeer} {m : Nat} (hbusy : p.busy = true) (h : p.div + 1 < 512) :
    p.tick peer m = ({ p with div := p.div + 1 }, false) := by
  rw [Serial.tick, if_pos hbusy, if_neg (show ¬ p.div + 1 ≥ serialTicks from Nat.not_le.2 h)]

theorem Serial.write_starts (p : Serial) {v : Byte} (h : v.getLsbD 7 = true) :
    p.write 0xFF02 v = { p with sc := v &&& 0x83, busy := true, div := 0 } := by
  have hbit : bitAt v 7 = true := h
  simp only [Serial.write, hbit, Nat.reduceEqDiff, if_true, if_false]

/-- Settles O58: the events due, the bits of P1, and the count of a transfer. -/
theorem joypadAndSerial : Obligations.JoypadAndSerial := by
  refine ⟨fun s b rest hs hrest => ?press, fun s b rest hs hrest => ?release, fun s rest hs => applyEvents_stop hs,
    fun s hbusy h => ?transfer, fun s => ⟨rfl, ?request⟩, fun j => ?read, fun p v => p.write_starts,
    fun p peer m hbusy => ⟨Serial.tick_counts hbusy, fun h => ?ends⟩⟩
  case press =>
    obtain ⟨hjoypad, hirq⟩ := applyEvents_single hs hrest
    exact ⟨congrArg IrqCtl.ifFlags hirq, hjoypad⟩
  case release =>
    obtain ⟨hjoypad, hirq⟩ := applyEvents_single hs hrest
    exact ⟨hirq, hjoypad⟩
  case transfer =>
    rw [serialTick_host, Serial.tick_ends hbusy h]
    rfl
  case request =>
    rw [serialTick_irq, IrqCtl.requestIf_eq]
    rfl
  case read =>
    obtain ⟨h0, h1, h2, h3⟩ := j.read_buttons
    exact ⟨h0, h1, h2, h3, j.read_selection⟩
  case ends =>
    rw [Serial.tick_ends hbusy h]
    refine ⟨rfl, rfl, rfl, ?_, ?_, ?_⟩
    all_goals
      rintro rfl
      rfl

end Sys2Proof.Machine

/-! ## Reset: the statements of the family 70_reset_and_hazards -/

namespace Sys2Proof.Machine

theorem State.resetRegs_flagsClean (c : Config) : (State.resetRegs c).FlagsClean := by
  have hf : (State.resetRegs c).f = if c.useBootRom then 0x00 else 0xB0 := by
    rw [State.resetRegs]
    split <;> rfl
  rw [Regs.FlagsClean, hf]
  cases c.useBootRom <;> rfl

theorem State.resetWith_inv (c : Config) : (State.resetWith c).Inv where
  mem := initMem_wf c
  flags := State.resetRegs_flagsClean c
  fifo := Nat.zero_le 16
  boundary := .inl rfl
  hdma := fun _ h => nomatch h

/-- Settles O19. -/
theorem resetMeetsInvariant : Obligations.ResetMeetsInvariant := ⟨State.resetWith_inv _, State.resetWith_inv⟩

/-! ### The registers at reset (70_reset_and_hazards R611 to R616) -/

theorem Apu.readNr52_reset (cgb useBootRom : Bool) :
    (Apu.reset cgb useBootRom).readNr52 = if useBootRom then 0x70 else 0xF1 := by
  cases cgb <;> cases useBootRom <;> rfl

theorem Ppu.readStat_reset (c : Config) : (Ppu.reset c).readStat = if c.useBootRom then 0x84 else 0x86 := by
  have hly : decide ((Ppu.reset c).ly = (Ppu.reset c).lyc) = true := decide_eq_true rfl
  have hen : (Ppu.reset c).statEn = 0 := rfl
  have hmode : (Ppu.reset c).mode = if c.useBootRom then .hblank else .oamSearch := rfl
  rw [Ppu.readStat, hly, hen, hmode]
  cases c.useBootRom <;> rfl

section
variable (c : Config)

theorem memRead_resetWith {a : Word} (h : isRegister a = true) :
    memRead (State.resetWith c) a = readDevice (State.resetWith c) a.toNat := memRead_register _ h

/-- NR52 at reset shows the sound unit on after the boot ROM, and off before it. -/
theorem memRead_resetWith_nr52 : memRead (State.resetWith c) 0xFF26 = if c.useBootRom then 0x70 else 0xF1 :=
  (memRead_resetWith c (by decide)).trans (Apu.readNr52_reset c.cgb c.useBootRom)

theorem memRead_resetWith_stat : memRead (State.resetWith c) 0xFF41 = if c.useBootRom then 0x84 else 0x86 :=
  (memRead_resetWith c (by decide)).trans (Ppu.readStat_reset c)

theorem memRead_resetWith_if : memRead (State.resetWith c) 0xFF0F = if c.useBootRom then 0xE0 else 0xE1 := by
  have hread : memRead (State.resetWith c) 0xFF0F = 0xE0 ||| (if c.useBootRom then (0 : BitVec 5) else 1).setWidth 8 :=
    memRead_resetWith c (by decide)
  rw [hread]
  cases c.useBootRom <;> decide

theorem memRead_resetWith_div : memRead (State.resetWith c) 0xFF04 = if c.useBootRom then 0x00 else 0xAB := by
  have hread : memRead (State.resetWith c) 0xFF04 = hiByte (if c.useBootRom then (0 : Word) else 0xABCC) :=
    memRead_resetWith c (by decide)
  rw [hread]
  cases c.useBootRom <;> decide

theorem memRead_resetWith_p1 : memRead (State.resetWith c) 0xFF00 = 0xCF := by
  have hread : memRead (State.resetWith c) 0xFF00 = ({ p1sel := 0, pressed := .none } : Joypad).read :=
    memRead_resetWith c (by decide)
  exact hread.trans (by decide)

theorem memRead_resetWith_tac : memRead (State.resetWith c) 0xFF07 = 0xF8 := by
  have hread : memRead (State.resetWith c) 0xFF07 = 0xF8 ||| (0 : BitVec 3).setWidth 8 := memRead_resetWith c (by decide)
  exact hread.trans (by decide)

theorem resetWith_postBoot (h : c.useBootRom = false) :
    let s := State.resetWith c
    memRead s 0xFF0F = 0xE1 ∧ s.timer.div16 = 0xABCC ∧ memRead s 0xFF04 = 0xAB ∧ memRead s 0xFF40 = 0x91 ∧
    memRead s 0xFF41 = 0x86 ∧ memRead s 0xFF47 = 0xFC ∧ memRead s 0xFF48 = 0xFF ∧ memRead s 0xFF49 = 0xFF ∧
    s.ppu.lcdEnabled = true ∧ s.ppu.mode = .oamSearch ∧ memRead s 0xFF26 = 0xF1 ∧ s.bootRomEnabled = false := by
  dsimp only
  rw [memRead_resetWith_nr52, memRead_resetWith_stat, memRead_resetWith_if,
    memRead_resetWith_div, memRead_resetWith c (a := 0xFF40) (by decide),
    memRead_resetWith c (a := 0xFF47) (by decide), memRead_resetWith c (a := 0xFF48) (by decide),
    memRead_resetWith c (a := 0xFF49) (by decide)]
  cases c
  cases h
  exact ⟨rfl, rfl, rfl, rfl, rfl, rfl, rfl, rfl, rfl, rfl, rfl, rfl⟩

theorem resetWith_cold (h : c.useBootRom = true) :
    let s := State.resetWith c
    memRead s 0xFF0F = 0xE0 ∧ s.timer.div16 = 0x0000 ∧ memRead s 0xFF40 = 0x00 ∧ memRead s 0xFF41 = 0x84 ∧
    memRead s 0xFF47 = 0x00 ∧ memRead s 0xFF48 = 0x00 ∧ memRead s 0xFF49 = 0x00 ∧
    s.ppu.lcdEnabled = false ∧ s.ppu.mode = .hblank ∧ memRead s 0xFF26 = 0x70 ∧ s.bootRomEnabled = true := by
  dsimp only
  rw [memRead_resetWith_nr52, memRead_resetWith_stat, memRead_resetWith_if,
    memRead_resetWith c (a := 0xFF40) (by decide), memRead_resetWith c (a := 0xFF47) (by decide),
    memRead_resetWith c (a := 0xFF48) (by decide), memRead_resetWith c (a := 0xFF49) (by decide)]
  cases c
  cases h
  exact ⟨rfl, rfl, rfl, rfl, rfl, rfl, rfl, rfl, rfl, rfl, rfl⟩

/-- HDMA5 reads 0xFF at reset: on a CGB by its value, on a DMG as no register. -/
theorem memRead_resetWith_hdma5 : memRead (State.resetWith c) 0xFF55 = 0xFF := by
  cases hc : c.cgb with
  | false =>
    refine memRead_void ((place_io _ (by decide) (by decide)).trans ?_)
    have hcfg : (State.resetWith c).cfg.cgb = false := hc
    rw [hcfg]
    rfl
  | true =>
    have hread : memRead (State.resetWith c) 0xFF55 = maskIf true 0x80 ||| (0x7F : BitVec 7).setWidth 8 :=
      memRead_cgbRegister (State.resetWith c) (a := 0xFF55) hc (by decide)
    exact hread.trans (by decide)

theorem resetWith_common :
    let s := State.resetWith c
    memRead s 0xFFFF = 0x00 ∧ memRead s 0xFF05 = 0x00 ∧ memRead s 0xFF06 = 0x00 ∧ memRead s 0xFF07 = 0xF8 ∧
    memRead s 0xFF00 = 0xCF ∧ memRead s 0xFF01 = 0x00 ∧ memRead s 0xFF02 = (if c.cgb then 0x7C else 0x7E) ∧
    memRead s 0xFF44 = 0x00 ∧ memRead s 0xFF46 = 0xFF ∧ memRead s 0xFF55 = 0xFF ∧ s.dma.transferInProgress = false ∧
    s.hdma.inProgress = false ∧ s.svbk = 0 ∧ s.ppu.lcdEnabledDelay = -1 := by
  dsimp only
  have hie : memRead (State.resetWith c) 0xFFFF = 0 := memRead_device (place_ie _)
  have hsc : memRead (State.resetWith c) 0xFF02 = if c.cgb then 0x7C else 0x7E := by
    refine (memRead_resetWith c (by decide)).trans ?_
    show (if c.cgb then (0x00 : Byte) ||| 0x7C else 0x00 ||| 0x7E) = _
    cases c.cgb <;> rfl
  rw [hie, hsc, memRead_resetWith_hdma5, memRead_resetWith c (a := 0xFF05) (by decide),
    memRead_resetWith c (a := 0xFF06) (by decide), memRead_resetWith_tac,
    memRead_resetWith_p1, memRead_resetWith c (a := 0xFF01) (by decide),
    memRead_resetWith c (a := 0xFF44) (by decide), memRead_resetWith c (a := 0xFF46) (by decide)]
  exact ⟨rfl, rfl, rfl, rfl, rfl, rfl, rfl, rfl, rfl, rfl, rfl, rfl, rfl, rfl⟩

/-- A cell given last in `initRam` is stored last. -/
theorem initMem_append (k : Nat) (v : Byte) : ({ c with initRam := c.initRam ++ [(k, v)] } : Config).initMem =
    Mem.write c.initMem k v := List.foldl_append

theorem construct_header (h : c.cartridge = .flatRom) : (State.construct c none).cfg.cgb = true ↔
    Mem.read (State.resetWith c).mem 0x143 = 0x80 ∨ Mem.read (State.resetWith c).mem 0x143 = 0xC0 := by
  have hheader : c.headerFlag = Mem.read c.initMem 0x143 := by
    rw [Config.headerFlag, Config.cartRead, h]
    rfl
  have hcgb : (State.construct c none).cfg.cgb = Config.decideCgb c.headerFlag none := rfl
  rw [hcgb, hheader, Config.decideCgb, Bool.or_eq_true, decide_eq_true_eq, decide_eq_true_eq]
  rfl

end

/-- Settles O29: register by register, after the boot ROM and before it. -/
theorem resetState : Obligations.ResetState := by
  refine ⟨fun c h => if_neg (Bool.eq_false_iff.1 h), fun c h => if_pos h, fun c => ⟨rfl, rfl, rfl, rfl, rfl⟩,
    resetWith_postBoot, resetWith_cold, resetWith_common, fun c k v => ⟨?_, fun j hj => ?_⟩,
    fun c => ⟨rfl, rfl, construct_header c⟩⟩
  · exact (congrArg (Mem.read · k) (initMem_append c k v)).trans (Mem.read_write_same k v (initMem_wf c))
  · exact (congrArg (Mem.read · j) (initMem_append c k v)).trans (Mem.read_write_other v hj)

end Sys2Proof.Machine


/-! ## What the instructions keep (60_exceptions R541, R560 to R563) -/

namespace Sys2Proof.Machine

/-- A property that time and the end of an instruction keep, and every operation of a list, is kept by running the list. -/
theorem runOps_keeps {P : State → Prop} (hcycle : ∀ s, P s → P (nextCycle s)) (hindex : ∀ s n, P s → P (s.setOpIndex n))
    (hfinish : ∀ s, P s → P (finish s)) {ops : List MicroOp} (hstep : ∀ op ∈ ops, ∀ s, P s → P (op.step s)) (b : Bool)
    {s : State} (h : P s) : P (runOps b ops s) := by
  induction ops generalizing b s with
  | nil => exact hfinish s h
  | cons op rest ih =>
    have hslot : P (if b && op.mem then nextCycle s else s) := by
      split
      · exact hcycle s h
      · exact h
    have hrest := ih fun o ho => hstep o (List.mem_cons_of_mem _ ho)
    unfold runOps
    dsimp only
    generalize (if b && op.mem then nextCycle s else s) = s1 at hslot ⊢
    have hop := hstep op List.mem_cons_self s1 hslot
    split
    · exact hfinish _ (hindex _ _ hop)
    · split
      · exact hrest _ (hcycle _ hop)
      · exact hrest _ hop

/-! ### The configuration and the fault -/

theorem run_cfg (op : MicroOp) (s : State) : (op.run s).cfg = s.cfg := by
  cases op with
  | wr am => exact memWrite_cfg _ _ _
  | wr16Lo a => exact memWrite_cfg _ _ _
  | wr16Hi a => exact memWrite_cfg _ _ _
  | pushHi => exact memWrite_cfg _ _ _
  | pushLo => exact memWrite_cfg _ _ _
  | _ => rfl

theorem microStep_cfg (op : MicroOp) (s : State) : (op.step s).cfg = s.cfg := by
  rw [MicroOp.step, run_cfg, oamBug_cfg]
  rfl

theorem microStep_faulted (op : MicroOp) (s : State) : (op.step s).eng.faulted = s.eng.faulted := by
  rw [microStep_eng]

/-- An instruction's operations raise nothing, and keep the variant. -/
theorem runOps_cfg_faulted (b : Bool) (ops : List MicroOp) (s : State) :
    (runOps b ops s).cfg = s.cfg ∧ (runOps b ops s).eng.faulted = s.eng.faulted := by
  refine runOps_keeps (P := fun t => t.cfg = s.cfg ∧ t.eng.faulted = s.eng.faulted) ?_ (fun _ _ h => h) (fun _ h => h) ?_ b
    ⟨rfl, rfl⟩
  · rintro t ⟨hcfg, hfault⟩
    exact ⟨(nextCycle_cfg t).trans hcfg, (nextCycle_faulted t).trans hfault⟩
  · rintro op - t ⟨hcfg, hfault⟩
    exact ⟨(microStep_cfg op t).trans hcfg, (microStep_faulted op t).trans hfault⟩

theorem halt_cfg_faulted (s : State) : (halt s).cfg = s.cfg ∧ (halt s).eng.faulted = s.eng.faulted := by
  unfold halt
  split <;> exact ⟨rfl, rfl⟩

theorem stop_cfg_faulted (s : State) : (stop s).cfg = s.cfg ∧ (stop s).eng.faulted = s.eng.faulted := by
  unfold stop
  split <;> exact ⟨rfl, rfl⟩

/-- Settles O21: by the four kinds of meaning, HALT, STOP, an undefined byte and a list of micro-operations. -/
theorem everyInstructionCompletes : Obligations.EveryInstructionCompletes := by
  intro i s
  rw [exec_form]
  cases hf : form i with
  | halt => exact ⟨halt s, rfl, fun _ => (halt_cfg_faulted s).2, (halt_cfg_faulted s).1⟩
  | stop b => exact ⟨stop s, rfl, fun _ => (stop_cfg_faulted s).2, (stop_cfg_faulted s).1⟩
  | illegal b => exact ⟨raiseUnknownOpcode b s, rfl, fun h => absurd rfl (h b), rfl⟩
  | _ => exact ⟨_, rfl, fun _ => (runOps_cfg_faulted true _ s).2, (runOps_cfg_faulted true _ s).1⟩

end Sys2Proof.Machine


/-! ## A step the host does not cut (00_scope R15; log 23)

A step that meets a stop event is, by definition, as many master ticks as the whole step has. That the stop flag is then
set in one of these ticks needs the tick-by-tick machine to meet the same ticks as the step does. `stepIsMasterTicks` says
so of a step that is not cut, with an HDMA transfer in its window; the lemmas here say it in every state. -/

namespace Sys2Proof.Machine

/-! ### An HDMA transfer outside its window

Outside its window a transfer can write HDMA5 itself, once: the transfer this starts is in its window. -/

/-- Where the HDMA engine writes is in its window. -/
def Hdma.within (h : Hdma) : Bool :=
  decide (0x8000 ≤ h.dst.toNat) && decide (h.dst.toNat + 16 * (h.length.toNat + 1) ≤ 0xA800)

theorem Hdma.within_iff {h : Hdma} :
    h.within = true ↔ 0x8000 ≤ h.dst.toNat ∧ h.dst.toNat + 16 * (h.length.toNat + 1) ≤ 0xA800 := by
  rw [Hdma.within, Bool.and_eq_true, decide_eq_true_eq, decide_eq_true_eq]

/-- What the bytes of one block can do to the engine `h`: leave the transfer alone, end it, or start one in the window. -/
def Hdma.AfterWrites (h g : Hdma) : Prop :=
  (g.inProgress = h.inProgress ∧ g.dst = h.dst ∧ g.length = h.length) ∨ g.inProgress = false ∨ g.within = true

theorem Hdma.start_within (h : Hdma) (v : Byte) : (h.start v).within = true := by
  obtain ⟨hlo, hhi⟩ := h.start_dst v
  have hl := (h.start v).length.isLt
  exact within_iff.2 ⟨hlo, by omega⟩

theorem Hdma.AfterWrites.write {h g : Hdma} (hg : h.AfterWrites g) (n : Nat) (v : Byte) :
    h.AfterWrites (g.write n v) := by
  rcases g.write_cases n v with ⟨hi, hd, hl⟩ | hi | hs
  · rw [Hdma.AfterWrites, Hdma.within, hi, hd, hl]
    exact hg
  · exact .inr (.inl hi)
  · exact .inr (.inr (hs ▸ g.start_within v))

theorem writeAt_hdma (s : State) (p : Place) (v : Byte) :
    (writeAt s p v).hdma = s.hdma ∨ ∃ n, (writeAt s p v).hdma = s.hdma.write n v := by
  cases p with
  | device n => exact .inr ⟨n, rfl⟩
  | _ => exact .inl rfl

theorem Hdma.AfterWrites.copyBlock {h : Hdma} (src dst : Word) (n j : Nat) {s : State} (hs : h.AfterWrites s.hdma) :
    h.AfterWrites (Machine.copyBlock src dst n j s).hdma := by
  induction n generalizing j s with
  | zero => exact hs
  | succ n ih =>
    refine ih (j + 1) ?_
    rcases writeAt_hdma s (region s (dst + BitVec.ofNat 16 j)) (mmuRead s (src + BitVec.ofNat 16 j)) with hw | ⟨m, hw⟩
    · exact (congrArg h.AfterWrites hw).mpr hs
    · exact (congrArg h.AfterWrites hw).mpr (hs.write m _)

/-! ### Master ticks up to the gated one -/

/-- The ticks that an HDMA transfer can still take: those of its blocks, and out of its window those of a transfer that
its bytes may start. -/
def Hdma.need (h : Hdma) (blockTicks : Nat) : Nat :=
  if h.inProgress then
    h.length.toNat * blockTicks + (blockTicks - min h.tick (blockTicks - 1)) +
      (if h.within then 0 else 128 * blockTicks)
  else 0

section
variable {h g : Hdma} {b : Nat}

theorem Hdma.need_of_idle (hp : h.inProgress = false) : h.need b = 0 := by
  rw [Hdma.need, hp]
  rfl

theorem Hdma.need_within (hp : h.inProgress = true) (hw : h.within = true) :
    h.need b = h.length.toNat * b + (b - min h.tick (b - 1)) := by
  rw [Hdma.need, if_pos hp, if_pos hw, Nat.add_zero]

theorem Hdma.need_outside (hp : h.inProgress = true) (hw : ¬ h.within = true) :
    h.need b = h.length.toNat * b + (b - min h.tick (b - 1)) + 128 * b := by
  rw [Hdma.need, if_pos hp, if_neg hw]

theorem Hdma.need_pos (hp : h.inProgress = true) (hb : 1 ≤ b) : 0 < h.need b := by
  by_cases hw : h.within = true
  · rw [need_within hp hw]
    omega
  · rw [need_outside hp hw]
    omega

theorem Hdma.need_le (hb : 1 ≤ b) : h.need b ≤ 256 * b := by
  have hlength : h.length.toNat * b ≤ 127 * b := Nat.mul_le_mul_right _ (by have := h.length.isLt; omega)
  cases hp : h.inProgress with
  | false =>
    rw [need_of_idle hp]
    exact Nat.zero_le _
  | true =>
    by_cases hw : h.within = true
    · rw [need_within hp hw]
      omega
    · rw [need_outside hp hw]
      omega

/-- The end of a block leaves as many whole blocks as the length says. -/
theorem Hdma.length_mul_blockDone (hp : h.blockDone.inProgress = true) (b : Nat) :
    h.blockDone.length.toNat * b + b = h.length.toNat * b ∧ h.blockDone.tick = 0 := by
  have hl : h.length ≠ 0 := fun h0 => by simp [Hdma.blockDone, h0] at hp
  have hn : h.length.toNat ≠ 0 := fun h0 => hl (BitVec.eq_of_toNat_eq h0)
  have hlength : h.blockDone.length.toNat = h.length.toNat - 1 := by
    show (if h.length = 0 then 0x7F else h.length - 1).toNat = _
    rw [if_neg hl, BitVec.toNat_sub]
    bv_omega
  obtain ⟨m, hm⟩ := Nat.exists_eq_succ_of_ne_zero hn
  rw [hlength, hm, Nat.succ_mul]
  exact ⟨rfl, rfl⟩

theorem Hdma.within_blockDone (hp : h.blockDone.inProgress = true) (hw : h.within = true) : h.blockDone.within = true := by
  obtain ⟨hlo, hhi⟩ := within_iff.1 hw
  obtain ⟨hlength, -⟩ := length_mul_blockDone hp 1
  have hdst : h.blockDone.dst = h.dst + 0x10 := rfl
  rw [within_iff, hdst]
  bv_omega

/-- The end of a block that wrote no register. -/
theorem Hdma.need_blockDone (hp : h.inProgress = true) (hb : 1 ≤ b) : h.blockDone.need b < h.need b := by
  cases hp' : h.blockDone.inProgress with
  | false =>
    rw [need_of_idle hp']
    exact need_pos hp hb
  | true =>
    obtain ⟨hlength, htick⟩ := length_mul_blockDone hp' b
    by_cases hw : h.within = true
    · rw [need_within hp' (within_blockDone hp' hw), need_within hp hw, htick]
      omega
    · have hle : h.blockDone.need b ≤ h.length.toNat * b + 128 * b := by
        by_cases hw' : h.blockDone.within = true
        · rw [need_within hp' hw', htick]
          omega
        · rw [need_outside hp' hw', htick]
          omega
      rw [need_outside hp hw]
      omega

/-- The end of a block that wrote registers, out of the window. -/
theorem Hdma.need_blockDone_outside (hp : h.inProgress = true) (hw : ¬ h.within = true) (hg : h.AfterWrites g) (hb : 1 ≤ b) :
    g.blockDone.need b < h.need b := by
  cases hp' : g.blockDone.inProgress with
  | false =>
    rw [need_of_idle hp']
    exact need_pos hp hb
  | true =>
    obtain ⟨hlength, htick⟩ := length_mul_blockDone hp' b
    rw [need_outside hp hw]
    rcases hg with ⟨-, -, hl⟩ | hidle | hwithin
    · have hle : g.blockDone.need b ≤ g.length.toNat * b + 128 * b := by
        by_cases hw' : g.blockDone.within = true
        · rw [need_within hp' hw', htick]
          omega
        · rw [need_outside hp' hw', htick]
          omega
      rw [hl] at hle
      omega
    · have hp'' : (if g.length = 0 then false else g.inProgress) = true := hp'
      rw [hidle, ite_self] at hp''
      cases hp''
    · have hmax : g.length.toNat * b ≤ 127 * b := Nat.mul_le_mul_right _ (by have := g.length.isLt; omega)
      rw [need_within hp' (within_blockDone hp' hwithin), htick]
      omega

end

/-- An HDMA tick is one tick less of what the transfer can take. -/
theorem hdmaTick_need {s : State} (hp : s.hdma.inProgress = true) :
    (hdmaTick s).hdma.need s.blockTicks < s.hdma.need s.blockTicks := by
  have hb : 1 ≤ s.blockTicks := Nat.le_max_left _ _
  by_cases hcount : s.hdma.tick + 1 < s.cfg.hdmaBlockTicks
  · have hblock : s.blockTicks = s.cfg.hdmaBlockTicks := Nat.max_eq_right (by omega)
    have hwithin : ({ s.hdma with tick := s.hdma.tick + 1 } : Hdma).within = s.hdma.within := rfl
    rw [hdmaTick, if_pos hcount, hdmaCount, Hdma.need, Hdma.need, if_pos hp, if_pos hp, hwithin]
    dsimp only
    omega
  · rw [hdmaTick, if_neg hcount]
    by_cases hw : s.hdma.within = true
    · obtain ⟨hlo, hhi⟩ := Hdma.within_iff.1 hw
      obtain ⟨m, c, hcopy⟩ := copyBlock_window s.hdma.src s.hdma.dst 16 0 (hdmaCount s) hlo (by omega)
      rw [hcopy]
      exact Hdma.need_blockDone hp hb
    · exact Hdma.need_blockDone_outside hp hw (Hdma.AfterWrites.copyBlock _ _ 16 0 (.inl ⟨rfl, rfl, rfl⟩)) hb

theorem copyBlock_eng (src dst : Word) (n j : Nat) (s : State) : (copyBlock src dst n j s).eng = s.eng := by
  induction n generalizing j s with
  | zero => rfl
  | succ n ih => rw [copyBlock, ih, mmuWrite, writeAt_eng]

theorem hdmaTick_eng (s : State) : (hdmaTick s).eng = s.eng := by
  unfold hdmaTick
  split
  · rfl
  · exact copyBlock_eng _ _ _ _ _

theorem hdmaTick_speed (s : State) : (hdmaTick s).spd.speed = s.spd.speed :=
  congrArg Timeless.speed (hdmaTick_timeless s)

theorem need_postCpu (s : State) (b : Nat) : (postCpu s).hdma.need b = s.hdma.need b := by
  rw [postCpu_hdma]
  rfl

/-- The gated tick that `toSlot` gives is that of the master tick after `k` whole ones. -/
structure GatedAfter (s t : State) (k : Nat) : Prop where
  state : t = countCycle (preCpu (ticks k s))
  bus : (preCpu (ticks k s)).hdmaActive = false
  gate : (preCpu (ticks k s)).atGate = true
  loops : (ticks k s).loops = true

theorem GatedAfter.succ {s t : State} {k : Nat} (h : GatedAfter (machineTick s) t k) : GatedAfter s t (k + 1) :=
  ⟨h.state, h.bus, h.gate, h.loops⟩

/-- With enough ticks allowed, `toSlot` ends in the gated tick of a master tick, unless the host stops the machine. -/
theorem toSlot_gatedAfter (n : Nat) {s : State} (hf : s.eng.faulted = none)
    (hn : s.hdma.need s.blockTicks + s.cycleLeft + 1 ≤ n) :
    ∃ k, GatedAfter s (toSlot n s) k ∨ (ticks k s).host.stopFlag = true := by
  induction n generalizing s with
  | zero => omega
  | succ n ih =>
    cases hs : s.host.stopFlag with
    | true => exact ⟨0, .inr hs⟩
    | false =>
      have hf1 : (preCpu s).eng.faulted = none := hf
      have hnext {t : State} (ht : machineTick s = t) (hft : t.eng.faulted = none)
          (hleft : t.hdma.need t.blockTicks + t.cycleLeft + 1 ≤ n) :
          ∃ k, GatedAfter s (toSlot n t) k ∨ (ticks k s).host.stopFlag = true := by
        obtain ⟨k, hk⟩ := ih hft hleft
        subst ht
        exact ⟨k + 1, hk.imp_left GatedAfter.succ⟩
      have htick := machineTick_eq hf hs
      simp only [toSlot]
      by_cases ha : (preCpu s).hdmaActive = true
      · rw [if_pos ha] at htick ⊢
        have hp : s.hdma.inProgress = true := by
          have hactive : (s.cfg.cgb && (s.hdma.inProgress && _)) = true := ha
          rw [Bool.and_eq_true, Bool.and_eq_true] at hactive
          exact hactive.2.1
        have hfh : (hdmaTick (preCpu s)).eng.faulted = none := by rw [hdmaTick_eng]; exact hf1
        have hleft : (hdmaTick (preCpu s)).hdma.need s.blockTicks < s.hdma.need s.blockTicks := hdmaTick_need hp
        refine hnext (htick.trans (endTick_of_running hfh)) hfh ?_
        have hblock : (postCpu (hdmaTick (preCpu s))).blockTicks = s.blockTicks :=
          congrArg (max 1 ·.cfg.hdmaBlockTicks) (hdmaTick_timeless (preCpu s))
        have hcycle : (postCpu (hdmaTick (preCpu s))).cycleLeft = s.cycleLeft := by
          rw [cycleLeft_postCpu, State.cycleLeft, hdmaTick_eng, State.ticksPerCycle, hdmaTick_speed]
          rfl
        rw [hblock, hcycle, need_postCpu]
        omega
      · rw [if_neg ha] at htick ⊢
        by_cases hg : (preCpu s).atGate = true
        · rw [if_pos hg]
          exact ⟨0, .inl ⟨rfl, Bool.eq_false_iff.2 ha, hg, loops_eq_true.2 ⟨hf, hs⟩⟩⟩
        · rw [if_neg hg]
          have hcpu : cpuTick (preCpu s) = countCycle (preCpu s) := by
            rw [cpuTick, hf1, if_neg nofun, if_neg hg]
          rw [hcpu] at htick
          refine hnext (htick.trans (endTick_of_running hf1)) hf1 ?_
          have hlt : s.eng.clockCycle + 1 < s.ticksPerCycle := Nat.not_le.1 fun h => hg (decide_eq_true h)
          have hclock : (countCycle (preCpu s)).eng.clockCycle = s.eng.clockCycle + 1 := if_neg hg
          have hcycle : (postCpu (countCycle (preCpu s))).cycleLeft = s.ticksPerCycle - (s.eng.clockCycle + 1) := by
            rw [cycleLeft_postCpu, State.cycleLeft, hclock]
            rfl
          have hblock : (postCpu (countCycle (preCpu s))).blockTicks = s.blockTicks := rfl
          have hneed : (countCycle (preCpu s)).hdma.need s.blockTicks = s.hdma.need s.blockTicks := rfl
          rw [hblock, need_postCpu, hneed, hcycle]
          unfold State.cycleLeft at hn
          omega

/-- From a boundary the CPU's next gated tick lies in a master tick, unless the host stops the machine before it. -/
theorem nextSlot_gatedAfter {s : State} (hf : s.eng.faulted = none) :
    ∃ k, ticks (k + 1) s = endTick (gatedTick (nextSlot s)) ∨ (ticks k s).host.stopFlag = true := by
  have hneed : s.hdma.need s.blockTicks ≤ 256 * s.blockTicks := Hdma.need_le (Nat.le_max_left _ _)
  have hblock : s.blockTicks ≤ s.cfg.hdmaBlockTicks + 1 := Nat.max_le.2 ⟨Nat.le_add_left _ _, Nat.le_succ _⟩
  have hcycle := cycleLeft_le s
  obtain ⟨k, hk⟩ := toSlot_gatedAfter s.slotBound hf (by unfold State.slotBound; omega)
  refine ⟨k, hk.imp_left fun h => ?_⟩
  have hrunning : (preCpu (ticks k s)).eng.faulted = none := (loops_eq_true.1 h.loops).1
  rw [ticks_succ, nextSlot, h.state]
  simp [machineTick, h.loops, h.bus, cpuTick, hrunning, h.gate]

/-! ### From one gated tick to a later one -/

/-- The host stops the machine in the master tick of the gated tick that ends in `x`, or in a later one. -/
def Stops (x : State) : Prop := ∃ n, (ticks n (endTick x)).host.stopFlag = true

theorem stops_of_flag {x : State} (h : x.host.stopFlag = true) : Stops x := ⟨0, (stopFlag_endTick x).trans h⟩

theorem stops_of_next {x : State} (hf : x.eng.faulted = none) (h : Stops (gatedTick (nextCycle x))) : Stops x := by
  obtain ⟨n, hn⟩ := h
  rw [Stops, endTick_of_running hf]
  obtain ⟨k, hk | hk⟩ := nextSlot_gatedAfter (s := postCpu x) hf
  · exact ⟨k + 1 + n, by rw [ticks_add, hk]; exact hn⟩
  · exact ⟨k, hk⟩

/-- The engine is running an entry's list and the operations `rest` of it are still to come. -/
structure Engine.Runs (rest : List MicroOp) (e : Engine) : Prop where
  running : e.faulted = none
  fsm : e.fsm = .running
  notStop : e.opcode1 ≠ 0x10
  notHalt : e.opcode1 ≠ 0x76
  suffix : ∃ done, e.ops = done ++ rest ∧ e.opIndex = done.length

section
variable {s : State} {op : MicroOp} {rest : List MicroOp}

theorem Engine.Runs.nextCycle (h : s.eng.Runs rest) : (nextCycle s).eng.Runs rest := by
  rw [nextCycle_eng]
  exact ⟨h.running, h.fsm, h.notStop, h.notHalt, h.suffix⟩

theorem Engine.Runs.step (h : s.eng.Runs (op :: rest)) : (op.step s).eng.Runs rest := by
  obtain ⟨done, hops, hindex⟩ := h.suffix
  rw [microStep_eng]
  refine ⟨h.running, h.fsm, h.notStop, h.notHalt, done ++ [op], ?_, ?_⟩
  · rw [List.append_assoc]
    exact hops
  · rw [List.length_append]
    exact congrArg (· + 1) hindex

/-- A round of the loop of a gated tick, with an operation for which the slot is free. -/
theorem Engine.Runs.gatedLoop_free (h : s.eng.Runs (op :: rest)) (n : Nat) {b : Bool} (hslot : (b && op.mem) = false) :
    gatedLoop (n + 1) b s =
      if !op.proceeds s then finish ((op.step s).setOpIndex ((op.step s).eng.opIndex + rest.length))
      else if op.isFin then op.step s
      else gatedLoop n (b || op.mem) (op.step s) := by
  obtain ⟨done, hops, hindex⟩ := h.suffix
  have hnext : s.eng.ops[s.eng.opIndex]? = some op := by simp [hops, hindex]
  have hlength : s.eng.ops.length = (op.step s).eng.opIndex + rest.length := by
    rw [microStep_eng, hops, List.length_append, List.length_cons, ← hindex]
    show _ = s.eng.opIndex + 1 + rest.length
    omega
  rw [gatedLoop]
  simp only [h.fsm, h.notStop, h.notHalt, if_false, hnext, hslot, Bool.false_eq_true, ← hlength]

/-- An operation for which the slot is taken waits for the next gated tick. -/
theorem Engine.Runs.gatedLoop_taken (h : s.eng.Runs (op :: rest)) (n : Nat) (hmem : op.mem = true) :
    gatedLoop (n + 1) true s = s := by
  obtain ⟨done, hops, hindex⟩ := h.suffix
  have hnext : s.eng.ops[s.eng.opIndex]? = some op := by simp [hops, hindex]
  rw [gatedLoop]
  simp only [h.fsm, h.notStop, h.notHalt, if_false, hnext, hmem, Bool.and_self, if_true]

theorem Engine.Runs.gatedLoop_nil (h : s.eng.Runs []) (n : Nat) (b : Bool) : gatedLoop (n + 1) b s = finish s := by
  obtain ⟨done, hops, hindex⟩ := h.suffix
  have hend : s.eng.ops[s.eng.opIndex]? = none := by simp [hops, hindex]
  rw [gatedLoop]
  simp only [h.fsm, h.notStop, h.notHalt, if_false, hend]

end

/-- If the host stops the machine before a list ends, it does so in the tick loop too. -/
theorem stops_runOps (rest : List MicroOp) (n : Nat) (b : Bool) {s : State} (h : s.eng.Runs rest) (hn : rest.length < n)
    (hfuel : rest.length < gatedFuel) (hstop : (runOps b rest s).host.stopFlag = true) : Stops (gatedLoop n b s) := by
  induction rest generalizing n b s with
  | nil =>
    obtain ⟨n, rfl⟩ := Nat.exists_eq_succ_of_ne_zero (Nat.ne_of_gt hn)
    rw [h.gatedLoop_nil]
    exact stops_of_flag hstop
  | cons op rest ih =>
    rw [List.length_cons] at hn hfuel
    have hfree (n : Nat) (b : Bool) {s : State} (h : s.eng.Runs (op :: rest)) (hslot : (b && op.mem) = false)
        (hn : rest.length < n) (hstop : (runOps b (op :: rest) s).host.stopFlag = true) : Stops (gatedLoop (n + 1) b s) := by
      rw [h.gatedLoop_free n hslot]
      unfold runOps at hstop
      simp only [hslot, Bool.false_eq_true, if_false] at hstop
      split
      · next hp =>
        rw [if_pos hp] at hstop
        exact stops_of_flag hstop
      · next hp =>
        rw [if_neg hp] at hstop
        split
        · next hfin =>
          rw [if_pos hfin] at hstop
          have hruns := h.step.nextCycle
          refine stops_of_next h.step.running ?_
          rw [gatedTick_busy (.inl hruns.fsm)]
          exact ih _ _ hruns (by omega) (by omega) hstop
        · next hfin =>
          rw [if_neg hfin] at hstop
          exact ih n _ h.step hn (by omega) hstop
    obtain ⟨n, rfl⟩ := Nat.exists_eq_succ_of_ne_zero (Nat.ne_of_gt (Nat.zero_lt_of_lt hn))
    cases hslot : b && op.mem with
    | false => exact hfree n b h hslot (by omega) hstop
    | true =>
      rw [Bool.and_eq_true] at hslot
      obtain ⟨rfl, hmem⟩ := hslot
      rw [h.gatedLoop_taken n hmem]
      refine stops_of_next h.running ?_
      rw [gatedTick_busy (.inl h.nextCycle.fsm)]
      exact hfree 15 false h.nextCycle rfl (Nat.lt_of_succ_lt_succ hfuel) (by rwa [← runOps_wait hmem])

end Sys2Proof.Machine

namespace Sys2Proof.Machine

open Decode

/-! ### The fetch in the tick loop -/

/-- State RUNNING after the bytes of an instruction with the defined opcode byte `b`: what the latches hold. -/
structure Engine.Latched (b : Byte) (e : Engine) : Prop where
  running : e.faulted = none
  fsm : e.fsm = .running
  opcode1 : e.opcode1 = b
  opIndex : e.opIndex = 0
  entry : (b ≠ 0xCB ∧ e.entry = some (.base b)) ∨ (b = 0xCB ∧ e.entry = some (.cb e.opcode2))

/-- What the latches hold does not depend on the HDMA engine: the laws of `Fetched` apply. -/
theorem Engine.Latched.fetched {b : Byte} {u : State} (h : u.eng.Latched b) : Fetched b { u with hdma := .reset false } :=
  ⟨⟨fun _ hp => (nomatch hp), h.running⟩, h.fsm, h.opcode1, h.opIndex, h.entry⟩

theorem stops_fetchOperands (k : Nat) {s : State} (hr : s.eng.faulted = none) (hf : s.eng.fsm = .operand)
    (hk : s.eng.operandIndex + k = s.eng.operandCount)
    (h : Stops (gatedLoop 14 true ((fetchOperands k s).setFsm .running))) : Stops (gatedLoop 15 true s) := by
  induction k generalizing s with
  | zero =>
    have hdone : ¬ s.eng.operandIndex < s.eng.operandCount := by omega
    rw [gatedLoop_operand 14 hf, if_neg hdone]
    exact h
  | succ k ih =>
    have hmore : s.eng.operandIndex < s.eng.operandCount := by omega
    have hf' : (nextCycle s).eng.fsm = .operand := (nextCycle_fsm s).trans hf
    have hcount : (nextCycle s).eng.operandCount = s.eng.operandCount := by rw [nextCycle_eng]; rfl
    rw [gatedLoop_operand 14 hf, if_pos hmore, if_pos rfl]
    refine stops_of_next hr ?_
    rw [gatedTick_busy (.inr (.inl hf')), gatedFuel, gatedLoop_operand 15 hf', nextCycle_operandIndex, hcount,
      if_pos hmore, if_neg Bool.false_ne_true]
    refine ih (s := fetchOperand (nextCycle s)) ((nextCycle_faulted s).trans hr) hf' ?_ h
    show (nextCycle s).eng.operandIndex + 1 + k = (nextCycle s).eng.operandCount
    rw [nextCycle_operandIndex, hcount]
    omega

theorem latched_fetchOperands (k : Nat) {b : Byte} {s : State} (hr : s.eng.faulted = none) (hb : s.eng.opcode1 = b)
    (hi : s.eng.opIndex = 0) (hcb : b ≠ 0xCB) (he : s.eng.entry = some (.base b)) :
    ((fetchOperands k s).setFsm .running).eng.Latched b := by
  induction k generalizing s with
  | zero => exact ⟨hr, rfl, hb, hi, .inl ⟨hcb, he⟩⟩
  | succ k ih =>
    exact ih (s := fetchOperand (nextCycle s)) ((nextCycle_faulted s).trans hr) ((nextCycle_opcode1 s).trans hb)
      ((nextCycle_opIndex s).trans hi) ((nextCycle_entry s).trans he)

section
variable {s : State} (hr : s.eng.faulted = none) (hf : s.eng.fsm = .extOpcode)
  (he : s.eng.opcode1 = 0x10 ∧ s.eng.entry = some (.base 0x10) ∨ s.eng.opcode1 = 0xCB ∧ s.eng.entry = none)
include hr hf he

omit hf in
theorem latched_fetchSecond (hi : s.eng.opIndex = 0) :
    ((fetchSecond (nextCycle s)).setFsm .running).eng.Latched s.eng.opcode1 := by
  have hentry := fetchSecond_entry s
  refine ⟨(nextCycle_faulted s).trans hr, rfl, nextCycle_opcode1 s, (nextCycle_opIndex s).trans hi, ?_⟩
  show s.eng.opcode1 ≠ 0xCB ∧ (fetchSecond (nextCycle s)).eng.entry = _ ∨ _ ∧ (fetchSecond (nextCycle s)).eng.entry = _
  rw [hentry]
  rcases he with ⟨hb, he⟩ | ⟨hb, he⟩ <;> rw [he, hb]
  · exact .inl ⟨by decide, rfl⟩
  · exact .inr ⟨rfl, rfl⟩

theorem stops_fetchSecond (h : Stops (gatedLoop 14 true ((fetchSecond (nextCycle s)).setFsm .running))) :
    Stops (gatedLoop 15 true s) := by
  have hf' : (nextCycle s).eng.fsm = .extOpcode := (nextCycle_fsm s).trans hf
  have hcount : (fetchSecond (nextCycle s)).eng.operandCount = 0 := by
    rw [Engine.operandCount, fetchSecond_entry]
    rcases he with ⟨-, he⟩ | ⟨-, he⟩ <;> rw [he] <;> rfl
  rw [gatedLoop_extOpcode 14 hf, if_pos rfl]
  refine stops_of_next hr ?_
  rwa [gatedTick_busy (.inr (.inr hf')), gatedFuel, gatedLoop_extOpcode 15 hf', if_neg Bool.false_ne_true,
    gatedLoop_operand 14 rfl, hcount, if_neg (Nat.not_lt_zero _)]

end

/-- The fetch of a defined opcode byte's instruction. -/
theorem stops_fetch {s : State} (hr : s.eng.faulted = none) (hf : s.eng.fsm = .opcode)
    (hu : isUndefined (fetchOpcode s).eng.opcode1 = false) :
    (fetch s).eng.Latched (fetchOpcode s).eng.opcode1 ∧
      (Stops (gatedLoop 14 true (fetch s)) → Stops (gatedLoop gatedFuel false s)) := by
  have hrt : (fetchOpcode s).eng.faulted = none := hr
  have hfsm := fetchOpcode_fsm hu
  have hentry : (fetchOpcode s).eng.entry = entryOf (fetchOpcode s).eng.opcode1 := rfl
  have hindex : (fetchOpcode s).eng.opIndex = 0 := rfl
  have hoperand : (fetchOpcode s).eng.operandIndex = 0 := rfl
  rw [gatedFuel, gatedLoop_opcode 15 hf, fetch, fetchRest]
  generalize fetchOpcode s = t at *
  simp only [hu, Bool.false_eq_true, if_false]
  cases hsec : hasSecondOpcode t.eng.opcode1 with
  | true =>
    have hext := hfsm.trans (if_pos hsec)
    have he : t.eng.opcode1 = 0x10 ∧ t.eng.entry = some (.base 0x10) ∨ t.eng.opcode1 = 0xCB ∧ t.eng.entry = none := by
      rcases (hasSecondOpcode_iff _).1 hsec with hb | hb <;> rw [hentry, hb]
      · exact .inl ⟨rfl, rfl⟩
      · exact .inr ⟨rfl, rfl⟩
    exact ⟨latched_fetchSecond hrt he hindex, stops_fetchSecond hrt hext he⟩
  | false =>
    have hcb : t.eng.opcode1 ≠ 0xCB := fun hb => by
      rw [hb] at hsec
      cases hsec
    have he : t.eng.entry = some (.base t.eng.opcode1) :=
      hentry.trans (if_neg (not_or.2 ⟨hcb, Bool.eq_false_iff.1 hu⟩))
    have hcount : t.eng.operandIndex + operandLength t.eng.opcode1 = t.eng.operandCount := by
      rw [hoperand, Nat.zero_add, Engine.operandCount, he]
    exact ⟨latched_fetchOperands _ hrt rfl hindex hcb he,
      stops_fetchOperands _ hrt (hfsm.trans (if_neg (Bool.eq_false_iff.1 hsec))) hcount⟩

/-! ### A whole step in the tick loop -/

/-- If the host stops the machine before a fetched instruction ends, it does so in the tick loop too. -/
theorem stops_exec {b : Byte} {u y : State} (h : u.eng.Latched b) (hu : isUndefined b = false)
    (hy : exec u.eng.instr u = .next y) (hstop : y.host.stopFlag = true) : Stops (gatedLoop 14 true u) := by
  by_cases h10 : b = 0x10
  · have hform : form u.eng.instr = .stop u.eng.opcode2 := by rw [Engine.instr, h.opcode1, h10]; rfl
    rw [exec_of_form hform] at hy
    cases hy
    rw [gatedLoop_stop 13 h.fsm (h.opcode1.trans h10)]
    exact stops_of_flag hstop
  by_cases h76 : b = 0x76
  · have hform : form u.eng.instr = .halt := by rw [Engine.instr, h.opcode1, h76]; rfl
    rw [exec_of_form hform] at hy
    cases hy
    rw [gatedLoop_halt 13 h.fsm (h.opcode1.trans h76)]
    exact stops_of_flag hstop
  have hruns : u.eng.Runs (form u.eng.instr).ops :=
    ⟨h.running, h.fsm, by rwa [h.opcode1], by rwa [h.opcode1], [], h.fetched.ops_eq h10, h.opIndex⟩
  have hlength := (form u.eng.instr).length_ops_le
  rw [exec_form, formExec_of_listed (h.fetched.instr_listed hu h10 h76)] at hy
  cases hy
  exact stops_runOps _ 14 true hruns (by omega) (by unfold gatedFuel; omega) hstop

theorem stops_runInstruction {s w : State} (hr : s.eng.faulted = none) (hf : s.eng.fsm = .opcode)
    (hw : runInstruction s = .next w) (hstop : w.host.stopFlag = true) : Stops (gatedLoop gatedFuel false s) := by
  obtain ⟨y, hy, -⟩ := exec_next (fetch s).eng.instr (fetch s)
  rw [runInstruction, hy] at hw
  cases hw
  rw [stopFlag_endTick] at hstop
  cases hu : isUndefined (fetchOpcode s).eng.opcode1 with
  | true =>
    have hfetch : fetch s = fetchOpcode s := if_pos hu
    have hform : form (fetchOpcode s).eng.instr = .illegal (fetchOpcode s).eng.opcode1 := form_undefined hu _ _
    rw [hfetch, exec_of_form hform] at hy
    cases hy
    rw [gatedFuel, gatedLoop_opcode 15 hf, if_pos hu]
    exact stops_of_flag hstop
  | false =>
    obtain ⟨hlatched, hback⟩ := stops_fetch hr hf hu
    exact hback (stops_exec hlatched hu hy hstop)

/-- The host stops the machine within the ticks a whole step has, if it does so in the tick loop at all. -/
theorem untilStopped_stopFlag {s w : State} (hreach : Reaches s w) (hw : w.host.stopFlag = true)
    (h : ∃ n, (ticks n s).host.stopFlag = true) : (untilStopped s w).host.stopFlag = true := by
  obtain ⟨n, hk⟩ := hreach
  obtain ⟨m, hm⟩ := h
  have hn : w.masterTicks - s.masterTicks = n := by
    have hticks : w.masterTicks = s.masterTicks + n :=
      (congrArg Clock.masterTicks hk.clock).trans (masterTicks_iterate_tick n s.clock)
    omega
  rw [untilStopped_ticks s hw, hn]
  rcases clock_ticks s n with hleft | hclock
  · rcases Nat.le_total n m with hnm | hmn
    · rwa [← Nat.add_sub_of_le hnm, ticks_add, ticks_stopped hleft] at hm
    · rw [← Nat.add_sub_of_le hmn, ticks_add, ticks_stopped (loops_of_stopFlag hm)]
      exact hm
  · exact (congrArg Clock.stopFlag (hclock.trans hk.clock.symm)).trans hw

/-- A step that fetches an instruction and that the host does not stop is the whole instruction. -/
theorem step_of_fetches {s t : State} (h : s.Fetches) (hstep : step s = .next t) (ht : t.host.stopFlag = false) :
    runInstruction (nextSlot s) = .next t := by
  obtain ⟨hf, hs, hfsm, hquiet⟩ := h
  have hfsm' : (nextSlot s).eng.fsm = .opcode := (nextSlot_fsm s).trans hfsm
  have hf' : (nextSlot s).eng.faulted = none := (congrArg (·.eng.faulted) (nextSlot_timeless s)).trans hf
  obtain ⟨w, hw, hreach, -⟩ := runInstruction_next (nextSlot s)
  rw [step_of_idle hf hs (by rw [hfsm]; rfl), stepAtSlot_opcode hquiet hfsm', hw] at hstep
  cases hstep
  rw [hw]
  cases hflag : w.host.stopFlag with
  | false => rw [untilStopped_live s hflag]
  | true =>
    refine absurd (untilStopped_stopFlag ((reaches_nextSlot s).trans hreach) hflag ?_) (by rw [ht]; nofun)
    have hgated : gatedTick (nextSlot s) = gatedLoop gatedFuel false (nextSlot s) := by
      rw [gatedTick_eq_gatedStep (by rw [State.acceptsInterrupt, Bool.and_assoc, hquiet, Bool.and_false]), gatedStep, hfsm']
    obtain ⟨n, hn⟩ := stops_runInstruction hf' hfsm' hw hflag
    obtain ⟨k, hk | hk⟩ := nextSlot_gatedAfter hf
    · exact ⟨k + 1 + n, by rw [ticks_add, hk, hgated]; exact hn⟩
    · exact ⟨k, hk⟩

end Sys2Proof.Machine


namespace Sys2Proof.Machine

/-! ### What changes IME (60_exceptions R560 to R563, R590) -/

/-- IME is `ime`, and no delayed effect is due. -/
structure State.ImeIs (ime : Bool) (s : State) : Prop where
  ime : s.irq.ime = ime
  enable : s.irq.pendingEnable = .idle
  disable : s.irq.pendingDisable = .idle

/-- Whether an operation leaves IME alone: all but the requests of EI, DI and RETI. -/
def MicroOp.keepsIme : MicroOp → Bool
  | .imeOn _ => false
  | .imeOff _ => false
  | _ => true

theorem Form.ops_keepsIme {f : Form} (hei : f ≠ .ei) (hdi : f ≠ .di) (hreti : f ≠ .reti) :
    f.ops.all MicroOp.keepsIme = true := by
  cases f with
  | ei => exact absurd rfl hei
  | di => exact absurd rfl hdi
  | reti => exact absurd rfl hreti
  | _ => rfl

namespace State.ImeIs

variable {ime : Bool} {s t : State}

/-- An update of anything else. -/
theorem of_timeless (h : s.ImeIs ime) (ht : t.timeless = s.timeless) : t.ImeIs ime :=
  ⟨(congrArg Timeless.ime ht).trans h.ime, (congrArg Timeless.pendingEnable ht).trans h.enable,
    (congrArg Timeless.pendingDisable ht).trans h.disable⟩

theorem nextCycle (h : s.ImeIs ime) : (Machine.nextCycle s).ImeIs ime := h.of_timeless (nextCycle_timeless s)

theorem memWrite (h : s.ImeIs ime) (a : Word) (v : Byte) : (Machine.memWrite s a v).ImeIs ime :=
  h.of_timeless (memWrite_timeless s a v)

theorem oamBug (h : s.ImeIs ime) (k : Option OamCause) : (Machine.oamBug k s).ImeIs ime := by
  obtain ⟨m, hm⟩ := oamBug_cases k s
  rw [hm]
  exact ⟨h.ime, h.enable, h.disable⟩

/-- The end of an instruction, where no delayed effect is due. -/
theorem finish (h : s.ImeIs ime) : (Machine.finish s).ImeIs ime := by
  have hkeep : (Machine.finish s).irq = s.irq := by
    show s.irq.instructionFinished s.cfg.diDelay = s.irq
    rw [IrqCtl.instructionFinished, IrqCtl.stepEnable, h.enable, IrqCtl.stepDisable, h.disable]
  exact ⟨hkeep ▸ h.ime, hkeep ▸ h.enable, hkeep ▸ h.disable⟩

theorem run (h : s.ImeIs ime) {op : MicroOp} (hop : op.keepsIme = true) : (op.run s).ImeIs ime := by
  have hpush (v : Byte) : (pushByte s v).ImeIs ime :=
    memWrite (s := s.setRegs { s.regs with sp := s.regs.sp - 1 }) ⟨h.ime, h.enable, h.disable⟩ _ v
  cases op with
  | wr am => exact h.memWrite _ _
  | wr16Lo a => exact h.memWrite _ _
  | wr16Hi a => exact h.memWrite _ _
  | pushHi => exact hpush _
  | pushLo => exact hpush _
  | imeOn d => cases hop
  | imeOff d => cases hop
  | _ => exact ⟨h.ime, h.enable, h.disable⟩

theorem microStep (h : s.ImeIs ime) {op : MicroOp} (hop : op.keepsIme = true) : (op.step s).ImeIs ime :=
  have hindex : (s.setOpIndex (s.eng.opIndex + 1)).ImeIs ime := ⟨h.ime, h.enable, h.disable⟩
  (hindex.oamBug _).run hop

theorem runOps (h : s.ImeIs ime) (b : Bool) {ops : List MicroOp} (hops : ops.all MicroOp.keepsIme = true) :
    (Machine.runOps b ops s).ImeIs ime :=
  runOps_keeps (P := State.ImeIs ime) (fun _ ht => ht.nextCycle) (fun _ _ ht => ⟨ht.ime, ht.enable, ht.disable⟩)
    (fun _ ht => ht.finish) (fun op hop _ ht => ht.microStep (List.all_eq_true.1 hops op hop)) b h

theorem afterBytes (h : s.ImeIs ime) (n : Nat) : (Machine.afterBytes n s).ImeIs ime := by
  induction n generalizing s with
  | zero => exact h
  | succ n ih => exact ih h.nextCycle

theorem fetch (h : s.ImeIs ime) : (Machine.fetch s).ImeIs ime := by
  cases hu : Decode.isUndefined (memRead s s.regs.pc) with
  | true =>
    rw [fetch_undefined hu]
    exact ⟨h.ime, h.enable, h.disable⟩
  | false =>
    have hbytes := h.afterBytes (Decode.tailLength (memRead s s.regs.pc))
    rw [(fetch_defined (fetchedBytes_eq s) hu).2]
    exact ⟨hbytes.ime, hbytes.enable, hbytes.disable⟩

theorem endTick (h : s.ImeIs ime) : (Machine.endTick s).ImeIs ime := by
  unfold Machine.endTick
  split
  · exact h
  · exact h.of_timeless (postCpu_timeless s)

theorem halt (h : s.ImeIs ime) : (Machine.halt s).ImeIs ime := by
  unfold Machine.halt
  split <;> exact ⟨h.ime, h.enable, h.disable⟩

theorem stop (h : s.ImeIs ime) : (Machine.stop s).ImeIs ime := by
  unfold Machine.stop
  split <;> exact ⟨h.ime, h.enable, h.disable⟩

theorem exec (h : s.ImeIs ime) {i : Instr} (hei : form i ≠ .ei) (hdi : form i ≠ .di) (hreti : form i ≠ .reti)
    (ht : Machine.exec i s = .next t) : t.ImeIs ime := by
  rw [exec_form] at ht
  rcases formExec_cases (form i) s with hx | hx | ⟨b, hx⟩ | hx <;> rw [hx] at ht <;> cases ht
  · exact h.halt
  · exact h.stop
  · exact ⟨h.ime, h.enable, h.disable⟩
  · exact h.runOps true (Form.ops_keepsIme hei hdi hreti)

end State.ImeIs

/-- Settles O20: an uncut step is its instruction (`step_of_fetches`), and of the micro-operations only the requests change
IME. -/
theorem onlyInterruptInstructionsChangeIme : Obligations.OnlyInterruptInstructionsChangeIme := by
  intro s t i rest hfetches hdec henable hdisable hei hdi hreti hstep hlive
  have hrun := step_of_fetches hfetches hstep hlive
  have hs : s.ImeIs s.irq.ime := ⟨rfl, henable, hdisable⟩
  have hfetch := (hs.of_timeless (nextSlot_timeless s)).fetch
  obtain ⟨w, hw, -⟩ := exec_next i (fetch (nextSlot s))
  rw [runInstruction, fetch_instr hdec, hw] at hrun
  cases hrun
  obtain ⟨h1, h2, h3⟩ := (hfetch.exec hei hdi hreti hw).endTick
  exact ⟨h1, h2, h3⟩

end Sys2Proof.Machine


/-! ## How long an instruction takes (70_reset_and_hazards R650) -/

namespace Sys2Proof.Machine

/-! ### M-cycles of a CPU that keeps the bus (40_cpu_fsm R170, R171) -/

/-- At the start of an M-cycle or in its gated tick, with no HDMA transfer that could take the bus. -/
structure State.InPhase (s : State) : Prop where
  clock : s.eng.clockCycle = 0
  bus : s.cfg.cgb = true → s.hdma.inProgress = false

/-- `n` M-cycles pass from `s`, if it is in phase, to `t`. -/
structure Takes (n : Nat) (s t : State) : Prop where
  ticks : t.masterTicks = s.masterTicks + n * s.ticksPerCycle
  clock : t.eng.clockCycle = 0

/-- They do, and `t` is in phase, with M-cycles of the same length. -/
structure Passes (n : Nat) (s t : State) : Prop extends Takes n s t where
  length : t.ticksPerCycle = s.ticksPerCycle
  inPhase : t.InPhase

section
variable {s t u : State} {n m : Nat}

theorem Passes.takes (h : Passes n s t) (h' : Takes m t u) : Takes (n + m) s u := by
  refine ⟨?_, h'.clock⟩
  rw [h'.ticks, h.ticks, h.length, Nat.add_mul, Nat.add_assoc]

theorem Passes.trans (h : Passes n s t) (h' : Passes m t u) : Passes (n + m) s u :=
  ⟨h.takes h'.toTakes, h'.length.trans h.length, h'.inPhase⟩

/-- An update of anything else takes no time. -/
theorem State.InPhase.passes_zero (h : s.InPhase) (hticks : t.masterTicks = s.masterTicks)
    (hclock : t.eng.clockCycle = s.eng.clockCycle) (hspeed : t.spd.speed = s.spd.speed)
    (hbus : t.cfg.cgb = true → t.hdma.inProgress = false) : Passes 0 s t :=
  ⟨⟨by rw [hticks, Nat.zero_mul, Nat.add_zero], hclock.trans h.clock⟩, by rw [State.ticksPerCycle, hspeed]; rfl,
    hclock.trans h.clock, hbus⟩

theorem hdmaActive_of_bus (h : s.cfg.cgb = true → s.hdma.inProgress = false) : s.hdmaActive = false := by
  cases hc : s.cfg.cgb with
  | true => exact hdmaActive_eq_false (h hc)
  | false => rw [State.hdmaActive, hc, Bool.false_and]

/-- While the CPU keeps the bus, the gated tick comes after the ticks the sub-cycle counter still lacks. -/
theorem toSlot_keepingBus (n : Nat) {s : State} (hbus : s.cfg.cgb = true → s.hdma.inProgress = false)
    (hc : s.eng.clockCycle < s.ticksPerCycle) (hn : s.cycleLeft ≤ n) :
    (toSlot n s).masterTicks = s.masterTicks + s.cycleLeft ∧ (toSlot n s).eng.clockCycle = 0 ∧
      (toSlot n s).hdma.inProgress = s.hdma.inProgress := by
  unfold State.cycleLeft at hn ⊢
  induction n generalizing s with
  | zero => omega
  | succ n ih =>
    have hpre : (preCpu s).hdmaActive = false := hdmaActive_of_bus (s := preCpu s) hbus
    simp only [toSlot, hpre, Bool.false_eq_true, if_false]
    by_cases hg : s.ticksPerCycle ≤ s.eng.clockCycle + 1
    · have hgate : (preCpu s).atGate = true := decide_eq_true hg
      rw [if_pos hgate]
      refine ⟨?_, if_pos hgate, rfl⟩
      show s.masterTicks + 1 = _
      omega
    · have hgate : ¬ (preCpu s).atGate = true := Bool.eq_false_iff.1 (decide_eq_false hg)
      have hclock : (postCpu (countCycle (preCpu s))).eng.clockCycle = s.eng.clockCycle + 1 :=
        if_neg hgate
      have hlength : (postCpu (countCycle (preCpu s))).ticksPerCycle = s.ticksPerCycle := rfl
      have hticks : (postCpu (countCycle (preCpu s))).masterTicks = s.masterTicks + 1 := rfl
      have ih' := ih (s := postCpu (countCycle (preCpu s))) hbus (by omega) (by omega)
      rw [hclock, hlength, hticks] at ih'
      rw [if_neg hgate]
      exact ⟨ih'.1.trans (by omega), ih'.2⟩

theorem nextSlot_passes (h : s.InPhase) : Passes 1 s (nextSlot s) := by
  have hleft : s.cycleLeft = s.ticksPerCycle := by rw [State.cycleLeft, h.clock, Nat.sub_zero]
  have hpos : s.eng.clockCycle < s.ticksPerCycle := by
    rw [h.clock, ticksPerCycle_eq]
    split <;> decide
  have htimeless := nextSlot_timeless s
  obtain ⟨hticks, hclock, hhdma⟩ := toSlot_keepingBus s.slotBound h.bus hpos
    ((cycleLeft_le _).trans (by unfold State.slotBound; omega))
  refine ⟨⟨?_, hclock⟩, congrArg (4 / ·.speed.factor) htimeless, hclock, fun hc => hhdma.trans (h.bus ?_)⟩
  · rw [Nat.one_mul, ← hleft]
    exact hticks
  · exact (congrArg (·.cfg.cgb) htimeless).symm.trans hc

theorem nextCycle_passes (h : s.InPhase) : Passes 1 s (nextCycle s) := by
  have hpost : Passes 0 s (postCpu s) := h.passes_zero rfl rfl rfl h.bus
  exact hpost.trans (nextSlot_passes hpost.inPhase)

end

/-! ### Operations and stores -/

/-- The address that an operation stores to. -/
def MicroOp.storeAddress (op : MicroOp) (r : Regs) : Option Word :=
  match op with
  | .wr am => some (r.addr am)
  | .wr16Lo a => some a
  | .wr16Hi a => some (a + 1)
  | .pushHi => some (r.sp - 1)
  | .pushLo => some (r.sp - 1)
  | _ => none

section
variable {s : State} {n : Nat}

/-- Only a store to HDMA5 starts a transfer. -/
theorem memWrite_inProgress (a : Word) (v : Byte) (h : s.cfg.cgb = true → s.hdma.inProgress = false ∧ a ≠ 0xFF55) :
    s.cfg.cgb = true → (memWrite s a v).hdma.inProgress = false := by
  intro hc
  obtain ⟨hidle, ha⟩ := h hc
  rcases memWrite_hdma s a v with hsame | ⟨-, hwrite⟩
  · rw [hsame]
    exact hidle
  · have hn : a.toNat ≠ 0xFF55 := fun hn => ha (BitVec.eq_of_toNat_eq hn)
    rw [hwrite, Hdma.write]
    simp only [if_neg hn, apply_ite Hdma.inProgress, hidle, ite_self]

theorem run_speed (op : MicroOp) (s : State) : (op.run s).spd.speed = s.spd.speed := by
  cases op with
  | wr am => exact memWrite_speed _ _ _
  | wr16Lo a => exact memWrite_speed _ _ _
  | wr16Hi a => exact memWrite_speed _ _ _
  | pushHi => exact memWrite_speed _ _ _
  | pushLo => exact memWrite_speed _ _ _
  | _ => rfl

/-- An operation that stores nothing to HDMA5 leaves the bus with the CPU. -/
theorem run_inProgress {op : MicroOp} (hbus : s.cfg.cgb = true → s.hdma.inProgress = false)
    (ha : s.cfg.cgb = true → op.storeAddress s.regs ≠ some 0xFF55) (hc : s.cfg.cgb = true) :
    (op.run s).hdma.inProgress = false := by
  have hsafe {a : Word} (h : op.storeAddress s.regs = some a) : a ≠ 0xFF55 := fun h' => ha hc (h.trans (congrArg some h'))
  have hpush (v : Byte) (h : op.storeAddress s.regs = some (s.regs.sp - 1)) : (pushByte s v).hdma.inProgress = false :=
    memWrite_inProgress (s := s.setRegs { s.regs with sp := s.regs.sp - 1 }) _ _ (fun _ => ⟨hbus hc, hsafe h⟩) hc
  cases op with
  | wr am => exact memWrite_inProgress _ _ (fun _ => ⟨hbus hc, hsafe rfl⟩) hc
  | wr16Lo a => exact memWrite_inProgress _ _ (fun _ => ⟨hbus hc, hsafe rfl⟩) hc
  | wr16Hi a => exact memWrite_inProgress _ _ (fun _ => ⟨hbus hc, hsafe rfl⟩) hc
  | pushHi => exact hpush _ rfl
  | pushLo => exact hpush _ rfl
  | _ => exact hbus hc

theorem microStep_takes (op : MicroOp) (h : s.eng.clockCycle = 0) : Takes 0 s (op.step s) := by
  refine ⟨?_, ?_⟩
  · rw [Nat.zero_mul, Nat.add_zero]
    exact congrArg Clock.masterTicks (keeps_microStep s op).clock
  · rw [microStep_eng]
    exact h

theorem microStep_passes {op : MicroOp} (h : s.InPhase) (ha : s.cfg.cgb = true → op.storeAddress s.regs ≠ some 0xFF55) :
    Passes 0 s (op.step s) := by
  have htakes := microStep_takes op h.clock
  obtain ⟨m, hm⟩ := oamBug_cases (op.cause s) (s.setOpIndex (s.eng.opIndex + 1))
  have hspeed : (op.step s).spd.speed = s.spd.speed := by
    rw [MicroOp.step, run_speed, hm]
    rfl
  refine ⟨htakes, by rw [State.ticksPerCycle, hspeed]; rfl, htakes.clock, fun hc => ?_⟩
  rw [microStep_cfg] at hc
  rw [MicroOp.step, hm]
  exact run_inProgress (s := { s.setOpIndex (s.eng.opIndex + 1) with mem := m }) h.bus ha hc

theorem finish_takes (h : s.eng.clockCycle = 0) : Takes 0 s (finish s) := ⟨by rw [Nat.zero_mul]; rfl, h⟩

end

end Sys2Proof.Machine


namespace Sys2Proof.Machine

/-! ### Lists (40_cpu_fsm R180 to R185) -/

/-- The M-cycles that pass while a list runs, all its conditions holding. -/
def passes : Bool → List MicroOp → Nat
  | _, [] => 0
  | b, op :: rest =>
    (if b && op.mem then 1 else 0) + if op.isFin then 1 + passes false rest else passes (b || op.mem) rest

def MicroOp.stores : MicroOp → Bool
  | .wr _ => true
  | .wr16Lo _ => true
  | .wr16Hi _ => true
  | .pushHi => true
  | .pushLo => true
  | _ => false

def MicroOp.unconditional : MicroOp → Bool
  | .ifCc _ => false
  | _ => true

/-- A list without a condition, and without a store before its last M-cycle. -/
def paced : Bool → List MicroOp → Bool
  | _, [] => true
  | b, op :: rest =>
    op.unconditional && (!op.stores || decide (passes true rest = 0)) && paced (!op.isFin && (b || op.mem)) rest

section
variable {s : State} {op : MicroOp} {rest : List MicroOp} {n : Nat} {b : Bool}

theorem MicroOp.storeAddress_of_not_stores (h : op.stores = false) (r : Regs) : op.storeAddress r = none := by
  cases op with
  | wr am => cases h
  | wr16Lo a => cases h
  | wr16Hi a => cases h
  | pushHi => cases h
  | pushLo => cases h
  | _ => rfl

theorem MicroOp.proceeds_of_unconditional (h : op.unconditional = true) (s : State) : op.proceeds s = true := by
  cases op with
  | ifCc c => cases h
  | _ => rfl

/-- An operation that stores nothing. -/
theorem microStep_passes_of_not_stores (h : s.InPhase) (hstores : op.stores = false) : Passes 0 s (op.step s) :=
  microStep_passes h fun _ => by
    rw [MicroOp.storeAddress_of_not_stores hstores]
    nofun

end

theorem Takes.zero_trans {s t u : State} (h : Takes 0 s t) (h' : Takes 0 t u) : Takes 0 s u :=
  ⟨by rw [h'.ticks, h.ticks, Nat.zero_mul, Nat.zero_mul, Nat.add_zero], h'.clock⟩

theorem finish_setOpIndex_takes {s : State} (h : s.eng.clockCycle = 0) (n : Nat) : Takes 0 s (finish (s.setOpIndex n)) :=
  ⟨by rw [Nat.zero_mul]; rfl, h⟩

/-- A list in which no M-cycle passes takes no time, whoever has the bus. -/
theorem runOps_takes_zero (ops : List MicroOp) {b : Bool} {s : State} (h : s.eng.clockCycle = 0) (hb : passes b ops = 0) :
    Takes 0 s (runOps b ops s) := by
  induction ops generalizing b s with
  | nil => exact finish_takes h
  | cons op rest ih =>
    have hstep := microStep_takes op h
    obtain ⟨hslot, hrest⟩ := Nat.add_eq_zero_iff.1 hb
    have htaken : ¬ (b && op.mem) = true := fun ht => by
      rw [if_pos ht] at hslot
      cases hslot
    have hfin : ¬ op.isFin = true := fun hf => by
      rw [if_pos hf] at hrest
      omega
    rw [if_neg hfin] at hrest
    unfold runOps
    simp only [if_neg htaken, if_neg hfin]
    split
    · exact hstep.zero_trans (finish_setOpIndex_takes hstep.clock _)
    · exact hstep.zero_trans (ih hstep.clock hrest)

/-- The round of a list for one operation without a condition. -/
theorem runOps_cons {op : MicroOp} (hcond : op.unconditional = true) (b : Bool) (rest : List MicroOp) (s : State) :
    runOps b (op :: rest) s =
      if op.isFin then runOps false rest (nextCycle (op.step (if b && op.mem then nextCycle s else s)))
      else runOps (b || op.mem) rest (op.step (if b && op.mem then nextCycle s else s)) := by
  have hproceeds := MicroOp.proceeds_of_unconditional hcond
  rw [runOps]
  simp only [hproceeds, Bool.not_true, Bool.false_eq_true, if_false]

theorem MicroOp.mem_of_stores {op : MicroOp} (h : op.stores = true) : op.mem = true ∧ op.isFin = false := by
  cases op with
  | wr am => exact ⟨rfl, rfl⟩
  | wr16Lo a => exact ⟨rfl, rfl⟩
  | wr16Hi a => exact ⟨rfl, rfl⟩
  | pushHi => exact ⟨rfl, rfl⟩
  | pushLo => exact ⟨rfl, rfl⟩
  | _ => cases h

theorem slot_passes {s : State} (h : s.InPhase) (c : Bool) :
    Passes (if c then 1 else 0) s (if c then nextCycle s else s) := by
  cases c with
  | false => exact h.passes_zero rfl rfl rfl h.bus
  | true => exact nextCycle_passes h

theorem runOps_takes (ops : List MicroOp) {b : Bool} {s : State} (h : s.InPhase) (hp : paced b ops = true) :
    Takes (passes b ops) s (runOps b ops s) := by
  induction ops generalizing b s with
  | nil => exact finish_takes h.clock
  | cons op rest ih =>
    rw [paced, Bool.and_eq_true, Bool.and_eq_true] at hp
    obtain ⟨⟨hcond, hstore⟩, hrest⟩ := hp
    rw [runOps_cons hcond, passes]
    have hslot := slot_passes h (b && op.mem)
    generalize (if (b && op.mem) = true then nextCycle s else s) = s1 at hslot ⊢
    cases hs : op.stores with
    | true =>
      obtain ⟨hmem, hfin⟩ := MicroOp.mem_of_stores hs
      rw [hs, Bool.not_true, Bool.false_or, decide_eq_true_eq] at hstore
      have hstep := microStep_takes op hslot.clock
      have hb : (b || op.mem) = true := by rw [hmem, Bool.or_true]
      rw [hfin, if_neg Bool.false_ne_true, if_neg Bool.false_ne_true, hb, hstore]
      exact hslot.takes (hstep.zero_trans (runOps_takes_zero rest hstep.clock hstore))
    | false =>
      have hstep := hslot.trans (microStep_passes_of_not_stores hslot.inPhase hs)
      cases hfin : op.isFin with
      | true =>
        rw [hfin, Bool.not_true, Bool.false_and] at hrest
        rw [if_pos rfl, if_pos rfl, ← Nat.add_assoc]
        have hnext := hstep.trans (nextCycle_passes hstep.inPhase)
        exact hnext.takes (ih hnext.inPhase hrest)
      | false =>
        rw [hfin, Bool.not_false, Bool.true_and] at hrest
        rw [if_neg Bool.false_ne_true, if_neg Bool.false_ne_true]
        exact hstep.takes (ih hstep.inPhase hrest)

/-! ### Lists with a condition or an early store -/

section
variable {s : State} {op : MicroOp} {rest : List MicroOp} {n : Nat} {b : Bool}

/-- An operation that takes the next M-cycle's slot. -/
theorem takes_taken (h : s.InPhase) (hmem : op.mem = true) (hfin : op.isFin = false) (hcond : op.unconditional = true)
    (ha : s.cfg.cgb = true → op.storeAddress s.regs ≠ some 0xFF55)
    (hrest : ∀ t : State, t = op.step (nextCycle s) → t.InPhase → Takes n t (runOps true rest t)) :
    Takes (n + 1) s (runOps true (op :: rest) s) := by
  have hcycle := nextCycle_passes h
  have hstep := hcycle.trans (microStep_passes (op := op) hcycle.inPhase (by rwa [nextCycle_cfg, nextCycle_regs]))
  rw [runOps_taken hmem hfin (MicroOp.proceeds_of_unconditional hcond), Nat.add_comm]
  exact hstep.takes (hrest _ rfl hstep.inPhase)

/-- An operation in the current M-cycle. -/
theorem takes_plain (h : s.InPhase) (hmem : op.mem = false) (hfin : op.isFin = false) (hcond : op.unconditional = true)
    (hstores : op.stores = false)
    (hrest : ∀ t : State, t = op.step s → t.InPhase → Takes n t (runOps b rest t)) :
    Takes n s (runOps b (op :: rest) s) := by
  have hstep := microStep_passes_of_not_stores h hstores
  rw [runOps_plain hmem hfin (MicroOp.proceeds_of_unconditional hcond), ← Nat.zero_add n]
  exact hstep.takes (hrest _ rfl hstep.inPhase)

/-- A condition: the rest of the list, or its end. -/
theorem takes_ifCc {cc : Cond} (h : s.InPhase)
    (hrest : s.regs.flags.holds cc = true → ∀ t : State, t = (MicroOp.ifCc cc).step s → t.InPhase → Takes n t (runOps b rest t)) :
    Takes (if s.regs.flags.holds cc then n else 0) s (runOps b (.ifCc cc :: rest) s) := by
  have hstep := microStep_passes_of_not_stores (op := .ifCc cc) h rfl
  rw [runOps_ifCc]
  cases hcc : s.regs.flags.holds cc with
  | true =>
    rw [if_pos rfl, if_pos rfl, ← Nat.zero_add n]
    exact hstep.takes (hrest hcc _ rfl hstep.inPhase)
  | false =>
    rw [if_neg Bool.false_ne_true, if_neg Bool.false_ne_true]
    exact hstep.takes (finish_setOpIndex_takes hstep.clock _)

end

end Sys2Proof.Machine


namespace Sys2Proof.Machine

/-! ### The lists of the instructions (70_reset_and_hazards R650) -/

theorem eq_ite_of_ite_eq {c : Bool} {a b k n : Nat} (h : (if c then a else b) = k + n) : n = if c then a - k else b - k := by
  cases c with
  | true => exact (Nat.sub_eq_of_eq_add' h).symm
  | false => exact (Nat.sub_eq_of_eq_add' h).symm

theorem runOps_takes_of {ops : List MicroOp} {b : Bool} {s : State} {n : Nat} (h : s.InPhase) (hp : paced b ops = true)
    (hn : passes b ops = n) : Takes n s (runOps b ops s) := hn ▸ runOps_takes ops h hp

section
variable {u : State} (h : u.InPhase)
include h

theorem takes_ldA16Sp (nn : Word) (ha : u.cfg.cgb = true → nn ≠ 0xFF55) : Takes 2 u (runOps true (Micro.ldA16Sp nn) u) := by
  refine takes_plain h rfl rfl rfl rfl fun t ht hin => ?_
  subst ht
  refine takes_taken hin rfl rfl rfl (fun hc hstore => ?_) fun t _ hin => runOps_takes_of hin rfl rfl
  rw [microStep_cfg] at hc
  exact ha hc (Option.some.inj hstore)

/-- The two bytes of a push, of which the first is stored before the last M-cycle. -/
theorem takes_pushWord {n : Nat} (rest : List MicroOp) (ha : u.cfg.cgb = true → u.regs.sp - 1 ≠ 0xFF55)
    (hrest : ∀ t : State, t.cfg = u.cfg → t.regs.sp = u.regs.sp - 1 → t.InPhase →
      Takes n t (runOps true (.pushLo :: rest) t)) :
    Takes (n + 1) u (runOps true (.pushHi :: .pushLo :: rest) u) := by
  refine takes_taken h rfl rfl rfl (fun hc hstore => ha hc (Option.some.inj hstore)) fun t ht hin => hrest t ?_ ?_ hin
  · rw [ht, microStep_cfg, nextCycle_cfg]
  · rw [ht, MicroOp.step, run_pushHi, withCpu_regs, oamBug_regs]
    show (nextCycle u).regs.sp - 1 = _
    rw [nextCycle_regs]

theorem takes_push (rr : StackReg) (ha : u.cfg.cgb = true → u.regs.sp - 1 ≠ 0xFF55) :
    Takes 3 u (runOps true (Micro.push rr) u) := by
  refine takes_taken h rfl rfl rfl (fun _ => nofun) fun t ht hin => takes_plain hin rfl rfl rfl rfl fun v hv hin => ?_
  have hregs : v.regs = u.regs := by
    rw [hv, ht]
    exact nextCycle_regs u
  refine takes_pushWord hin [] (fun hc => ?_) fun w _ _ hin => runOps_takes_of hin rfl rfl
  rw [hregs]
  refine ha ?_
  rwa [hv, ht, microStep_cfg, microStep_cfg, nextCycle_cfg] at hc

/-- CALL from its first operation on, `LDR pc` aside. -/
theorem takes_callRest (nn : Word) (ha : u.cfg.cgb = true → u.regs.sp - 1 ≠ 0xFF55) :
    Takes 2 u (runOps true [.pushHi, .pushLo, .imm16 nn, .str .pc] u) :=
  takes_pushWord h [.imm16 nn, .str .pc] ha fun _ _ _ hin => runOps_takes_of hin rfl rfl

theorem takes_call (nn : Word) (ha : u.cfg.cgb = true → u.regs.sp - 1 ≠ 0xFF55) :
    Takes 3 u (runOps true (Micro.call nn) u) := by
  refine takes_plain h rfl rfl rfl rfl fun t ht hin => takes_taken hin rfl rfl rfl (fun _ => nofun) fun v hv hin => ?_
  have hregs : v.regs = u.regs := by
    rw [hv, ht]
    exact nextCycle_regs _
  refine takes_callRest hin nn fun hc => ?_
  rw [hregs]
  refine ha ?_
  rwa [hv, ht, microStep_cfg, nextCycle_cfg, microStep_cfg] at hc

theorem takes_callCc (cc : Cond) (nn : Word)
    (ha : u.cfg.cgb = true → u.regs.flags.holds cc = true → u.regs.sp - 1 ≠ 0xFF55) :
    Takes (if u.regs.flags.holds cc then 3 else 0) u (runOps true (Micro.callCc cc nn) u) := by
  refine takes_ifCc h fun hcc t ht hin => ?_
  refine takes_taken hin rfl rfl rfl (fun _ => nofun) fun v hv hin => takes_plain hin rfl rfl rfl rfl fun w hw hin => ?_
  have hregs : w.regs = u.regs := by
    rw [hw, hv, ht]
    exact nextCycle_regs _
  refine takes_callRest hin nn fun hc => ?_
  rw [hregs]
  refine ha ?_ hcc
  rwa [hw, hv, ht, microStep_cfg, microStep_cfg, nextCycle_cfg, microStep_cfg] at hc

theorem takes_rst (y : Fin 8) (ha : u.cfg.cgb = true → u.regs.sp - 1 ≠ 0xFF55)
    (ha' : u.cfg.cgb = true → u.regs.sp - 2 ≠ 0xFF55) : Takes 3 u (runOps true (Micro.rst y) u) := by
  refine takes_plain h rfl rfl rfl rfl fun t ht hin => ?_
  have hregs : t.regs = u.regs := by
    rw [ht]
    rfl
  have hcfg : t.cfg = u.cfg := by rw [ht, microStep_cfg]
  refine takes_pushWord hin _ (by rwa [hregs, hcfg]) fun v hcfg' hsp hin => ?_
  refine takes_taken hin rfl rfl rfl (fun hc hstore => ?_) fun w _ hin => runOps_takes_of hin rfl rfl
  rw [hcfg', hcfg] at hc
  refine ha' hc ((Option.some.inj hstore).symm.trans ?_).symm
  rw [hsp, hregs]
  bv_omega

theorem takes_jrCc (cc : Cond) (e : Int) :
    Takes (if u.regs.flags.holds cc then 1 else 0) u (runOps true (Micro.jrCc cc e) u) := by
  refine takes_plain h rfl rfl rfl rfl fun t ht hin => ?_
  have hregs : t.regs = u.regs := by
    rw [ht]
    rfl
  rw [← hregs]
  exact takes_ifCc hin fun _ v _ hin => runOps_takes_of hin rfl rfl

theorem takes_jpCc (cc : Cond) (nn : Word) :
    Takes (if u.regs.flags.holds cc then 1 else 0) u (runOps true (Micro.jpCc cc nn) u) := by
  refine takes_plain h rfl rfl rfl rfl fun t ht hin => ?_
  have hregs : t.regs = u.regs := by
    rw [ht]
    rfl
  rw [← hregs]
  exact takes_ifCc hin fun _ v _ hin => runOps_takes_of hin rfl rfl

theorem takes_retCc (cc : Cond) :
    Takes ((if u.regs.flags.holds cc then 3 else 0) + 1) u (runOps true (Micro.retCc cc) u) := by
  refine takes_taken h rfl rfl rfl (fun _ => nofun) fun t ht hin => ?_
  have hregs : t.regs = u.regs := by
    rw [ht]
    exact nextCycle_regs u
  rw [← hregs]
  exact takes_ifCc hin fun _ v _ hin => runOps_takes_of hin rfl rfl

/-- A list without a condition and without an early store takes the M-cycles that pass in it. -/
theorem takes_of_paced {f : Form} {n : Nat} (hpaced : paced true f.ops = true)
    (hpasses : f.cycles (f.taken u.regs.flags) = (Encode.ofForm f).length + passes true f.ops)
    (hn : f.cycles (f.taken u.regs.flags) = (Encode.ofForm f).length + n) : Takes n u (runOps true f.ops u) := by
  have hpass : n = passes true f.ops := by omega
  rw [hpass]
  exact runOps_takes f.ops h hpaced

/-- What an instruction of the table takes beyond the M-cycles of its bytes. -/
theorem Form.ops_takes {f : Form} {n : Nat} (hlisted : f.listed = true)
    (hn : f.cycles (f.taken u.regs.flags) = (Encode.ofForm f).length + n)
    (ha : u.cfg.cgb = true → 0xFF55 ∉ f.earlyStores (f.taken u.regs.flags) u.regs) : Takes n u (runOps true f.ops u) := by
  cases f with
  | halt => cases hlisted
  | stop b => cases hlisted
  | illegal b => cases hlisted
  | ldA16Sp nn =>
    obtain rfl : n = 2 := (Nat.add_left_cancel hn).symm
    exact takes_ldA16Sp h nn fun hc heq => ha hc (heq ▸ List.mem_singleton_self _)
  | push rr =>
    obtain rfl : n = 3 := (Nat.add_left_cancel hn).symm
    exact takes_push h rr fun hc heq => ha hc (heq ▸ List.mem_singleton_self _)
  | call nn =>
    obtain rfl : n = 3 := (Nat.add_left_cancel hn).symm
    exact takes_call h nn fun hc heq => ha hc (heq ▸ List.mem_singleton_self _)
  | rst y =>
    obtain rfl : n = 3 := (Nat.add_left_cancel hn).symm
    exact takes_rst h y (fun hc heq => ha hc (heq ▸ List.mem_cons_self))
      fun hc heq => ha hc (List.mem_cons_of_mem _ (heq ▸ List.mem_singleton_self _))
  | callCc cc nn =>
    have hif : n = if u.regs.flags.holds cc then 3 else 0 := eq_ite_of_ite_eq hn
    rw [hif]
    refine takes_callCc h cc nn fun hc hcc heq => ha hc ?_
    show 0xFF55 ∈ if u.regs.flags.holds cc then [u.regs.sp - 1] else []
    rw [if_pos hcc, heq]
    exact List.mem_singleton_self _
  | jrCc cc e =>
    have hif : n = if u.regs.flags.holds cc then 1 else 0 := eq_ite_of_ite_eq hn
    rw [hif]
    exact takes_jrCc h cc e
  | jpCc cc nn =>
    have hif : n = if u.regs.flags.holds cc then 1 else 0 := eq_ite_of_ite_eq hn
    rw [hif]
    exact takes_jpCc h cc nn
  | retCc cc =>
    have hif : n = if u.regs.flags.holds cc then 4 else 1 := eq_ite_of_ite_eq hn
    have hsum : (if u.regs.flags.holds cc then 4 else 1) = (if u.regs.flags.holds cc then 3 else 0) + 1 := by
      split <;> rfl
    rw [hif, hsum]
    exact takes_retCc h cc
  | _ => exact takes_of_paced h rfl rfl hn

end

/-! ### The whole instruction -/

theorem afterBytes_passes (n : Nat) {u : State} (h : u.InPhase) : Passes n u (afterBytes n u) := by
  induction n generalizing u with
  | zero => exact h.passes_zero rfl rfl rfl h.bus
  | succ n ih =>
    have hcycle := nextCycle_passes h
    have hall := hcycle.trans (ih hcycle.inPhase)
    rwa [Nat.add_comm 1 n] at hall

theorem afterBytes_cfg (n : Nat) (u : State) : (afterBytes n u).cfg = u.cfg := by
  induction n generalizing u with
  | zero => rfl
  | succ n ih => exact (ih _).trans (nextCycle_cfg u)

/-- The fetch takes an M-cycle per byte after the first, and of the registers it changes pc only. -/
theorem fetch_passes {u : State} {i : Instr} {rest : List Byte} (h : u.InPhase)
    (hdec : decode (fetchedBytes u) = .ok (i, rest)) (hdef : ∀ b, form i ≠ .illegal b) :
    ∃ n, (encode i).length = n + 1 ∧ Passes n u (fetch u) ∧ (fetch u).cfg = u.cfg ∧
      ∃ pc, (fetch u).regs = { u.regs with pc := pc } := by
  have hbytes := fetchedBytes_eq u
  rw [hbytes, decode_three] at hdec
  cases hdec
  have hu : Decode.isUndefined (memRead u u.regs.pc) = false :=
    Bool.eq_false_iff.2 fun hu => hdef _ (form_undefined hu _ _)
  have hstate := (fetch_defined hbytes hu).2
  have hpasses := afterBytes_passes (Decode.tailLength (memRead u u.regs.pc)) h
  have hover : Passes 0 (afterBytes (Decode.tailLength (memRead u u.regs.pc)) u) (fetch u) := by
    rw [hstate]
    exact hpasses.inPhase.passes_zero rfl rfl rfl hpasses.inPhase.bus
  refine ⟨_, Decode.length_encode_decodeBytes _ _ _, hpasses.trans hover, ?_,
    secondPc u + BitVec.ofNat 16 (Decode.tailLength (memRead u u.regs.pc)), congrArg State.regs hstate⟩
  exact (congrArg State.cfg hstate).trans (afterBytes_cfg _ u)

theorem halt_takes {u : State} (h : u.eng.clockCycle = 0) : Takes 0 u (halt u) := by
  unfold halt
  split <;> exact ⟨by rw [Nat.zero_mul]; rfl, h⟩

theorem stop_takes {u : State} (h : u.eng.clockCycle = 0) : Takes 0 u (stop u) := by
  unfold stop
  split <;> exact ⟨by rw [Nat.zero_mul]; rfl, h⟩

/-- What a defined instruction takes beyond the M-cycles of its bytes. -/
theorem exec_takes {i : Instr} {u t : State} {n : Nat} (h : u.InPhase) (hdef : ∀ b, form i ≠ .illegal b)
    (hn : (form i).cycles ((form i).taken u.regs.flags) = (encode i).length + n)
    (ha : u.cfg.cgb = true → 0xFF55 ∉ (form i).earlyStores ((form i).taken u.regs.flags) u.regs)
    (ht : exec i u = .next t) : Takes n u t := by
  rw [exec_form] at ht
  rw [encode] at hn
  cases hl : (form i).listed with
  | true =>
    rw [formExec_of_listed hl] at ht
    cases ht
    exact Form.ops_takes h hl hn ha
  | false =>
    cases hf : form i with
    | halt =>
      rw [hf] at hn ht
      cases ht
      obtain rfl : n = 0 := (Nat.add_left_cancel hn).symm
      exact halt_takes h.clock
    | stop b =>
      rw [hf] at hn ht
      cases ht
      obtain rfl : n = 0 := (Nat.add_left_cancel hn).symm
      exact stop_takes h.clock
    | illegal b => exact absurd hf (hdef b)
    | _ =>
      rw [hf] at hl
      cases hl

theorem endTick_takes {t : State} (h : t.eng.clockCycle = 0) : Takes 0 t (endTick t) := by
  unfold endTick
  split <;> exact ⟨by rw [Nat.zero_mul]; rfl, h⟩

theorem Takes.zero_end {n : Nat} {s t u : State} (h : Takes n s t) (h' : Takes 0 t u) : Takes n s u :=
  ⟨by rw [h'.ticks, h.ticks, Nat.zero_mul, Nat.add_zero], h'.clock⟩

/-- The table's M-cycles are those of the bytes and some more. -/
theorem Form.length_le_cycles (f : Form) (taken : Bool) : (Encode.ofForm f).length ≤ f.cycles taken := by
  cases f <;> cases taken <;> exact Nat.le_of_ble_eq_true rfl

/-- Settles O17: an uncut step is its instruction (`step_of_fetches`), which takes an M-cycle per byte (`fetch_passes`) and
those of its list (`exec_takes`). -/
theorem instructionTiming : Obligations.InstructionTiming := by
  intro s t i rest hfetches hkeeps hclock hdec hdef hstep hlive
  have hrun := step_of_fetches hfetches hstep hlive
  have hs : s.InPhase := ⟨hclock, fun hc => (hkeeps hc).1⟩
  have hslot := nextSlot_passes hs
  obtain ⟨k, hlength, hfetch, hcfg, pc, hregs⟩ := fetch_passes hslot.inPhase hdec hdef
  rw [nextSlot_regs] at hregs
  have hflags : (fetch (nextSlot s)).regs.flags = s.regs.flags := by rw [hregs]; rfl
  obtain ⟨n, hn⟩ := Nat.exists_eq_add_of_le ((form i).length_le_cycles ((form i).taken s.regs.flags))
  obtain ⟨w, hw, -⟩ := exec_next i (fetch (nextSlot s))
  have hexec : Takes n (fetch (nextSlot s)) w := by
    refine exec_takes hfetch.inPhase hdef (by rw [hflags]; exact hn) (fun hc => ?_) hw
    rw [hcfg, nextSlot_cfg] at hc
    have hsafe := (hkeeps hc).2
    rw [hflags, hregs]
    cases hf : form i <;> rw [hf] at hsafe <;> exact hsafe
  rw [runInstruction, fetch_instr hdec, hw] at hrun
  cases hrun
  have hall := (hslot.trans hfetch).takes (hexec.zero_end (endTick_takes hexec.clock))
  refine ⟨?_, hall.clock⟩
  rw [hall.ticks, ticksPerCycle_eq, hn]
  show _ = s.masterTicks + ((encode i).length + n) * _
  rw [hlength, Nat.add_comm 1 k]

end Sys2Proof.Machine
